-- ==== Sys2Proof/Word.lean ====
section
/-! DEFINITION. The words of the block's three encoded formats (30_encoding.md R100). Bits are numbered from 0 at the
least significant bit (00_scope.md R7). -/

namespace Sys2Proof

/-- A byte of the framebuffer, of a frame or of the STATUS word (R7). -/
abbrev Byte := BitVec 8

/-- The host request word `REQ_OP[3:0]` (R100). -/
abbrev ReqWord := BitVec 4

/-- The response word `RESP_CODE[2:0]` (R100). -/
abbrev RespWord := BitVec 3

end Sys2Proof
end

