-- ==== Sys2Proof/Syntax.lean ====
section
/-! DEFINITION. What the block is asked and what it sends: the host requests and the panel commands (one constructor of
`Instr` per row of spec/opcode_table.json), responses, frames, the actions of a host program, and the statements of the
sequencer's step tables. -/

namespace Sys2Proof

/-- The instruction set of the block (00_scope.md R3): the host requests of 30_encoding.md R101 and R107, then the 18
panel commands of R104. No request has an operand (R102); every parameter byte of a panel command is a constant of the
block (R108), so a panel command has no operand either. -/
inductive Instr where
  | init
  | refresh
  | powerOn
  | sleep
  | waitReady
  | waitDone
  /-- The reserved request code 0x0. -/
  | reserved0
  /-- The reserved request code 0x7. -/
  | reserved7
  /-- A reserved request code with bit 3 set, 0x8 to 0xF; `code` is the whole word. -/
  | reserved8 (code : ReqWord)
  | swReset
  | driverOutputControl
  | dataEntryMode
  | ramXRange
  | ramYRange
  | borderWaveform
  | vendorReg
  | displayUpdateControl2
  | masterActivation
  | ramXCursor
  | ramYCursor
  | writeLut
  | driveControl
  | gateVoltage
  | sourceVoltage
  | vcom
  | writeRamBw
  | deepSleep
  deriving DecidableEq, Repr

/-- The responses the block gives (30_encoding.md R110). -/
inductive Response where
  | ok
  | busy
  | transportError
  | illegal
  deriving DecidableEq, Repr

/-- The select level `dc` of a frame (R100): `command` is 0, `data` is 1. -/
inductive Select where
  | command
  | data
  deriving DecidableEq, Repr

/-- A frame on the transport port: the select level and the bytes, first on the wire first (R100, R140). -/
structure Frame where
  dc : Select
  bytes : List Byte
  deriving DecidableEq, Repr

/-- What a decoder is given: a request word on the `REQ` port, or a frame seen on the `TP` port (R100). -/
inductive Code where
  | request (w : ReqWord)
  | frame (f : Frame)
  deriving DecidableEq, Repr

/-- One line of a host program (30_encoding.md R109, 20_memory.md R76): issue a request by its word, read STATUS, write
one framebuffer byte (`WRB`), read `n` framebuffer bytes. -/
inductive HostAction where
  | request (w : ReqWord)
  | status
  | write (addr : Nat) (v : Byte)
  | read (addr n : Nat)
  deriving DecidableEq, Repr

/-- The agents of the step relation (46_mode_mux.md R331). -/
inductive Agent where
  | seq
  | host (h : Nat)
  deriving DecidableEq, Repr, Inhabited

/-- The statements the step tables of 10_state.md R34 are made of. `advance` and `next` set `pc`; `poll` and
`coopPoll` set it only when the sample reads 0. -/
inductive Stmt where
  /-- `SetRst(v)` (R146). -/
  | setRst (v : Bool)
  /-- `Delay(ms)` (R148). -/
  | delay (ms : Nat)
  /-- `Yield()` (R149). -/
  | yield
  /-- `Cmd(OP, parameters)` of the panel command `i` (R143). -/
  | send (i : Instr)
  /-- `ROW(S.row)` (R271). -/
  | row
  /-- `POLL_PIN` (R243). -/
  | poll
  /-- The busy poll of `REFRESH_COOP` entry 3, with `COMPLETE` on its not-busy branch (R276, R277). -/
  | coopPoll
  /-- `pc <- pc + 1`. -/
  | advance
  /-- `pc <- again` while `S.row < HEIGHT`, else `pc <- exit` (R272, R276). -/
  | next (again exit : Nat)
  /-- `S.panel <- CONFIGURED` (R186). -/
  | configured
  /-- The panel bookkeeping of SLEEP (R315). -/
  | asleep
  /-- `S.seq <- IDLE; respond(h, OK)` (R186, R272, R310, R314). -/
  | finish
  deriving DecidableEq, Repr

end Sys2Proof
end

