-- ==== Sys2Proof/Config.lean ====
section
/-! DEFINITION. The parameters of 00_scope.md R4 that the source fixes, the shape of those it leaves OPEN, and the free
values: constants without a body, of which no proof can know a value. -/

namespace Sys2Proof

namespace Config

/-- `WIDTH` (R4), pixels. -/
abbrev width : Nat := 200
/-- `HEIGHT` (R4), rows. -/
abbrev height : Nat := 200
/-- `STRIDE` (R4), bytes per row: `WIDTH/8`. -/
abbrev stride : Nat := 25
/-- `FB_SIZE` (R4), bytes: `HEIGHT × STRIDE`. -/
abbrev fbSize : Nat := 5000
/-- `LUT_LEN` (R4), bytes. -/
abbrev lutLen : Nat := 227
/-- `T_RST_SETTLE` (R4), milliseconds, a lower bound. -/
abbrev tRstSettle : Nat := 200
/-- `T_POLL` (R4), milliseconds, a lower bound. -/
abbrev tPoll : Nat := 100
/-- `T_MIN_REFRESH_INTERVAL` (R4), milliseconds: a caller obligation only (R401). -/
abbrev tMinRefreshInterval : Nat := 180000
/-- `RST_RESET_LEVEL` (R4). -/
abbrev rstResetLevel : Bool := true

/-- The BUSY level a free sample reads (40_bus_primitives.md R147: draws under no law). Log 4. -/
opaque freeBusy : Nat → Bool
/-- The result of a frame whose result is free (R145: a draw). Log 4. -/
opaque freeOk : Nat → Bool
/-- The agent that has a free turn (46_mode_mux.md R332: which enabled agent steps next is open). Log 1. -/
opaque freeAgent : Nat → Agent
/-- A free choice of where a waiter stands in the order a firing answers in (10_state.md R41 gives none). Log 6. -/
opaque freeOrder : Nat → Nat
/-- Byte `i` of `WAVEFORM_LUT` of `State.reset` (42_waveform.md R221: OPEN, the source gives no byte). Log 8. -/
opaque freeLut : Nat → Byte

end Config

/-- The 16 OPEN opcode parameters `OP_<name>` (30_encoding.md R104). -/
structure Opcodes where
  swReset : Byte
  driverOutputControl : Byte
  dataEntryMode : Byte
  ramXRange : Byte
  ramYRange : Byte
  borderWaveform : Byte
  vendorReg : Byte
  ramXCursor : Byte
  ramYCursor : Byte
  writeLut : Byte
  driveControl : Byte
  gateVoltage : Byte
  sourceVoltage : Byte
  vcom : Byte
  writeRamBw : Byte
  deepSleep : Byte
  deriving DecidableEq, Repr

/-- `OP_DISPLAY_UPDATE_CONTROL_2`, fixed by the source (R104). -/
abbrev Config.opDisplayUpdateControl2 : Byte := 0x22
/-- `OP_MASTER_ACTIVATION`, fixed by the source (R104). -/
abbrev Config.opMasterActivation : Byte := 0x20

/-- PRESUMED, unsafe (log 7): the general-knowledge defaults of 93_implementation_defined.md G2. Only `State.reset` and
`decodeTableWord` use them. -/
def Opcodes.default : Opcodes where
  swReset := 0x12
  driverOutputControl := 0x01
  dataEntryMode := 0x11
  ramXRange := 0x44
  ramYRange := 0x45
  borderWaveform := 0x3C
  vendorReg := 0x18
  ramXCursor := 0x4E
  ramYCursor := 0x4F
  writeLut := 0x32
  driveControl := 0x3F
  gateVoltage := 0x03
  sourceVoltage := 0x04
  vcom := 0x2C
  writeRamBw := 0x24
  deepSleep := 0x10

/-- The parameters of one block, fixed for its lifetime (R5): the opcodes and `WAVEFORM_LUT`. -/
structure Params where
  ops : Opcodes
  lut : List Byte
  deriving DecidableEq, Repr

/-- The parameters of `State.reset`. Log 7, log 8. -/
def Params.default : Params where
  ops := Opcodes.default
  lut := (List.range Config.lutLen).map Config.freeLut

end Sys2Proof
end

