-- ==== Sys2Proof/WellFormed.lean ====
section
/-! DEFINITION. Which instructions, frames and parameters are well formed. -/

namespace Sys2Proof

/-- A reserved code of the third RESERVED row has bit 3 set (opcode_table.json: match 0x8, mask 0x8). -/
def Instr.wf : Instr → Bool
  | .reserved8 code => code.getLsbD 3
  | .init | .refresh | .powerOn | .sleep | .waitReady | .waitDone | .reserved0 | .reserved7 => true
  | .swReset | .driverOutputControl | .dataEntryMode | .ramXRange | .ramYRange | .borderWaveform => true
  | .vendorReg | .displayUpdateControl2 | .masterActivation | .ramXCursor | .ramYCursor | .writeLut => true
  | .driveControl | .gateVoltage | .sourceVoltage | .vcom | .writeRamBw | .deepSleep => true

/-- A command frame has exactly one byte, a data frame one or more (30_encoding.md R100). -/
def Frame.wf (f : Frame) : Bool :=
  match f.dc with
  | .command => f.bytes.length == 1
  | .data => 1 ≤ f.bytes.length

/-- Every request word is well formed (R103); a frame is as `Frame.wf` says. -/
def Code.wf : Code → Bool
  | .request _ => true
  | .frame f => f.wf

/-- The 18 panel opcodes in the order of R104. -/
def Opcodes.all (o : Opcodes) : List Byte :=
  [o.swReset, o.driverOutputControl, o.dataEntryMode, o.ramXRange, o.ramYRange, o.borderWaveform, o.vendorReg,
   Config.opDisplayUpdateControl2, Config.opMasterActivation, o.ramXCursor, o.ramYCursor, o.writeLut, o.driveControl,
   o.gateVoltage, o.sourceVoltage, o.vcom, o.writeRamBw, o.deepSleep]

/-- The 18 opcodes are pairwise distinct (30_encoding.md R105). -/
abbrev Opcodes.Distinct (o : Opcodes) : Prop := o.all.Nodup

/-- The parameters are as R105 and 42_waveform.md R221 ask: distinct opcodes, a table of exactly `LUT_LEN` bytes. -/
abbrev Params.wf (p : Params) : Prop := p.ops.Distinct ∧ p.lut.length = Config.lutLen

/-- A framebuffer access of `n` bytes from offset `addr` is in range (20_memory.md R72, R76). -/
abbrev fbInRange (addr n : Nat) : Prop := addr + n ≤ Config.fbSize

/-- A host action is in range (R76); requests and STATUS reads always are. -/
def HostAction.wf : HostAction → Bool
  | .write addr _ => addr < Config.fbSize
  | .read addr n => fbInRange addr n
  | .request _ => true
  | .status => true

end Sys2Proof
end

