-- ==== Sys2Proof/Decode.lean ====
section
/-! DEFINITION. The decoder of request words and of panel frames, total and rejecting by name; the encoder; the reader
of a whole frame trace (30_encoding.md R101, R103, R104, R106, R110). -/

namespace Sys2Proof

/-- Why a code stands for no instruction. -/
inductive Reject where
  /-- A data frame carries parameter or pixel bytes and starts no command (R106). -/
  | dataFrame
  /-- A command frame that does not hold exactly one byte (R100). -/
  | malformedFrame
  /-- An opcode outside the 18 commands, which the block never emits (R107). -/
  | notEmitted
  deriving DecidableEq, Repr

/-- The request a word stands for: total, every other code is reserved (R101, R103, R107). -/
def decodeRequest (w : ReqWord) : Instr :=
  if w = 0x0 then .reserved0
  else if w = 0x1 then .init
  else if w = 0x2 then .refresh
  else if w = 0x3 then .powerOn
  else if w = 0x4 then .sleep
  else if w = 0x5 then .waitReady
  else if w = 0x6 then .waitDone
  else if w = 0x7 then .reserved7
  else .reserved8 w

/-- The panel command map of R104 under the opcode parameters `o`. -/
def panelTable (o : Opcodes) : List (Byte × Instr) :=
  [(o.swReset, .swReset), (o.driverOutputControl, .driverOutputControl), (o.dataEntryMode, .dataEntryMode),
   (o.ramXRange, .ramXRange), (o.ramYRange, .ramYRange), (o.borderWaveform, .borderWaveform),
   (o.vendorReg, .vendorReg), (Config.opDisplayUpdateControl2, .displayUpdateControl2),
   (Config.opMasterActivation, .masterActivation), (o.ramXCursor, .ramXCursor), (o.ramYCursor, .ramYCursor),
   (o.writeLut, .writeLut), (o.driveControl, .driveControl), (o.gateVoltage, .gateVoltage),
   (o.sourceVoltage, .sourceVoltage), (o.vcom, .vcom), (o.writeRamBw, .writeRamBw), (o.deepSleep, .deepSleep)]

/-- The panel command an opcode byte stands for (R104, R107). -/
def decodeOpcode (o : Opcodes) (b : Byte) : Except Reject Instr :=
  match (panelTable o).lookup b with
  | some i => .ok i
  | none => .error .notEmitted

/-- The instruction a frame starts. The `dc` level, not the opcode, tells a command from its parameters (R106). -/
def decodeFrame (o : Opcodes) (f : Frame) : Except Reject Instr :=
  match f.dc, f.bytes with
  | .data, _ => .error .dataFrame
  | .command, [b] => decodeOpcode o b
  | .command, _ => .error .malformedFrame

/-- The decoder: total on every request word and every frame. -/
def decode (o : Opcodes) : Code → Except Reject Instr
  | .request w => .ok (decodeRequest w)
  | .frame f => decodeFrame o f

/-- The command frame of a panel command whose opcode is `b` (R100, R141). -/
def commandFrame (b : Byte) : Frame := ⟨.command, [b]⟩

/-- The encoder, from the same tables: a request word (R101, R107) or the command frame of a panel command (R104). -/
def encode (o : Opcodes) : Instr → Code
  | .reserved0 => .request 0x0
  | .init => .request 0x1
  | .refresh => .request 0x2
  | .powerOn => .request 0x3
  | .sleep => .request 0x4
  | .waitReady => .request 0x5
  | .waitDone => .request 0x6
  | .reserved7 => .request 0x7
  | .reserved8 code => .request code
  | .swReset => .frame (commandFrame o.swReset)
  | .driverOutputControl => .frame (commandFrame o.driverOutputControl)
  | .dataEntryMode => .frame (commandFrame o.dataEntryMode)
  | .ramXRange => .frame (commandFrame o.ramXRange)
  | .ramYRange => .frame (commandFrame o.ramYRange)
  | .borderWaveform => .frame (commandFrame o.borderWaveform)
  | .vendorReg => .frame (commandFrame o.vendorReg)
  | .displayUpdateControl2 => .frame (commandFrame Config.opDisplayUpdateControl2)
  | .masterActivation => .frame (commandFrame Config.opMasterActivation)
  | .ramXCursor => .frame (commandFrame o.ramXCursor)
  | .ramYCursor => .frame (commandFrame o.ramYCursor)
  | .writeLut => .frame (commandFrame o.writeLut)
  | .driveControl => .frame (commandFrame o.driveControl)
  | .gateVoltage => .frame (commandFrame o.gateVoltage)
  | .sourceVoltage => .frame (commandFrame o.sourceVoltage)
  | .vcom => .frame (commandFrame o.vcom)
  | .writeRamBw => .frame (commandFrame o.writeRamBw)
  | .deepSleep => .frame (commandFrame o.deepSleep)

/-- Is the instruction one of the host requests, reserved codes included (R101, R107)? The others are panel commands. -/
def Instr.isRequest : Instr → Bool
  | .init | .refresh | .powerOn | .sleep | .waitReady | .waitDone => true
  | .reserved0 | .reserved7 | .reserved8 _ => true
  | .swReset | .driverOutputControl | .dataEntryMode | .ramXRange | .ramYRange | .borderWaveform => false
  | .vendorReg | .displayUpdateControl2 | .masterActivation | .ramXCursor | .ramYCursor | .writeLut => false
  | .driveControl | .gateVoltage | .sourceVoltage | .vcom | .writeRamBw | .deepSleep => false

/-- `RESP_CODE[2:0]` of a response (R110). -/
def Response.encode : Response → RespWord
  | .ok => 0
  | .busy => 1
  | .transportError => 2
  | .illegal => 3

/-- The response a `RESP_CODE` names; codes 4 to 7 are reserved and never produced (R110). -/
def Response.decode (w : RespWord) : Option Response :=
  if w = 0 then some .ok
  else if w = 1 then some .busy
  else if w = 2 then some .transportError
  else if w = 3 then some .illegal
  else none

/-- A command as a reader of the trace sees it: the opcode and the data frames up to the next command frame (R106). -/
structure Command where
  op : Byte
  data : List (List Byte)
  deriving DecidableEq, Repr

/-- The frames of one command (R106). -/
def Command.frames (c : Command) : List Frame :=
  commandFrame c.op :: c.data.map (fun l => ⟨.data, l⟩)

/-- Reads the frames of a trace as commands by their `dc` level alone (R106): answers the data frames that stand before
the first command frame, and the commands. A command frame of any other length than one byte is not read (R100). -/
def readFrames : List Frame → Option (List (List Byte) × List Command)
  | [] => some ([], [])
  | f :: fs =>
    match readFrames fs with
    | none => none
    | some (d, cs) =>
      match f.dc, f.bytes with
      | .data, l => some (l :: d, cs)
      | .command, [b] => some ([], ⟨b, d⟩ :: cs)
      | .command, _ => none

/-- What the opcode table's bits `w` are laid out as, `nbits` wide: a request word where they fit in four bits, else the
command frame of one byte. Log 16: a byte-wide word below 16 is read as a request. -/
def tableCode (nbits w : Nat) : Option Code :=
  if nbits < 4 then none
  else if w < 16 then some (.request (BitVec.ofNat 4 w))
  else if 8 ≤ nbits ∧ w < 256 then some (.frame (commandFrame (BitVec.ofNat 8 w)))
  else none

/-- The instruction the decoder reads from the bits of a row of spec/opcode_table.json, under the default opcodes (log 7). -/
def decodeTableWord (nbits w : Nat) : Option Instr :=
  match tableCode nbits w with
  | some c =>
    match decode Opcodes.default c with
    | .ok i => some i
    | .error _ => none
  | none => none

end Sys2Proof
end

