-- ==== Sys2Proof/Machine/State.lean ====
section
/-! DEFINITION. The state of the block and of what stands around it, as plain data, and the reasons a step can stop.
10_state.md R31 to R51; 00_scope.md R11; 46_mode_mux.md R331. -/

namespace Sys2Proof.Machine

/-- `S.mode` (10_state.md R33); in STATUS, 0 is `SYNC` and 1 is `COOP` (R31). -/
inductive Mode where
  | sync
  | coop
  deriving DecidableEq, Repr

/-- The operations SEQ runs (R32). -/
inductive Operation where
  | init
  | refreshSync
  | refreshCoop
  | powerOn
  | sleep
  deriving DecidableEq, Repr

/-- `S.seq` (R31, R32): `IDLE`, or `Run(op, h, pc)`. `segment` is the model's own (log 15): SEQ stands inside entry `pc`
with `rest` of its statements still to perform; only `withFetchWord` places SEQ there, and no step leaves it there. -/
inductive Seq where
  | idle
  | run (op : Operation) (h pc : Nat)
  | segment (op : Operation) (h pc : Nat) (rest : List Stmt)
  deriving DecidableEq, Repr

/-- `S.port` (R44). -/
inductive Port where
  | free
  | held (h : Nat)
  deriving DecidableEq, Repr

/-- `S.panel` (R47), model-only bookkeeping. -/
inductive Panel where
  | unconfigured
  | configured
  | asleep
  | undefined
  deriving DecidableEq, Repr

/-- `H[h].st` (R45). -/
inductive HostStatus where
  | free
  | pending (op : Instr)
  | waitReady (first : Bool)
  | waitDone
  deriving DecidableEq, Repr

/-- A host agent (R45). `prog` is the rest of its host program (30_encoding.md R109); `status` and `data` are what its
last STATUS read and framebuffer read gave it. The last three fields are the model's own (log 13). -/
structure HostAgent where
  st : HostStatus
  prog : List HostAction
  status : Option Byte
  data : List Byte
  deriving DecidableEq, Repr

/-- The kinds of `raise Fault(kind)` (60_exceptions.md R354, R356). -/
inductive FaultKind where
  | transport
  | busConflict
  deriving DecidableEq, Repr

/-- The events of a trace (00_scope.md R11). -/
inductive Event where
  | rst (v : Bool)
  | delay (ms : Nat)
  | busy (v : Bool)
  | yield
  | frame (dc : Select) (bytes : List Byte) (ok : Bool)
  | resp (h : Nat) (code : Response)
  | done
  | fault (kind : FaultKind)
  deriving DecidableEq, Repr

/-- What is given to a block at a block reset (70_reset_and_hazards.md R393): one host program per host agent, and the
contents of the framebuffer as (offset, byte) pairs. -/
structure Launch where
  progs : List (List HostAction)
  fb : List Host.Cell
  deriving DecidableEq, Repr

/-- What moves next: an agent's step, or an event outside the block. The last three are the model's own way to give the
block its environment (log 1, 5, 11). -/
inductive Turn where
  | agent (a : Agent)
  /-- Block reset (R390). -/
  | blockReset (l : Launch)
  /-- The `MODE_SEL` strap takes a level (R336). -/
  | strap (m : Mode)
  /-- The transport stops answering, or answers again (40_bus_primitives.md R144). -/
  | transport (silent : Bool)
  deriving DecidableEq, Repr

/-- The environment's inputs, the model's own fields but for the strap level: the turns, BUSY samples, transport results
and answering orders still to come, first next. Where a list is empty the next value is a free value, and `drawn` counts
the free values taken (log 1, 4, 6). -/
structure Env where
  turns : List Turn
  busy : List Bool
  ok : List Bool
  order : List Nat
  drawn : Nat
  /-- The level of the `MODE_SEL` input (10_state.md R33, R48). -/
  modeSel : Mode
  /-- The transport returns no result any more (R144). -/
  tpSilent : Bool
  deriving DecidableEq, Repr

/-- The state of the block (10_state.md R31), the framebuffer it reads (20_memory.md R70), its parameters (00_scope.md
R4), the trace (R11), and the model's own `issuer` and `env`. Bits are Booleans, 1 is `true`. -/
structure State where
  mode : Mode
  seq : Seq
  row : Nat
  lbusy : Bool
  signal : Bool
  waiters : List Nat
  port : Port
  faultTp : Bool
  faultBc : Bool
  rst : Bool
  panel : Panel
  hosts : List HostAgent
  fb : List Host.Cell
  trace : List Event
  cfg : Params
  issuer : Nat
  env : Env
  deriving DecidableEq, Repr

/-- Why the machine stops. -/
inductive Fault where
  /-- Raised by a turn of an agent, and by every instruction, while a fault bit is set: the block is stopped and no agent
  has a step (60_exceptions.md R355). Safe: the manual lets nothing happen here either. -/
  | stopped
  /-- Raised by SEQ where `pc` names no entry of the running operation's table. Safe: no run reaches it
  (`Safety.Invariant`). -/
  | noEntry
  deriving DecidableEq, Repr

/-- Why the model gives no meaning. -/
inductive Refusal where
  /-- Raised by an arm of `exec` for an instruction that has no meaning yet. Safe. -/
  | notModelled (mnemonic : String)
  /-- Raised by a host's framebuffer read or write outside `0 ≤ addr < FB_SIZE`, which the manual says is refused
  (20_memory.md R72, R76). Safe. -/
  | framebufferRange
  /-- Raised by SEQ where `ROW(r)` has no row `r`, so that `MemRead` is not defined (R72). Safe: no run reaches it
  (`Safety.Invariant`). -/
  | rowRange
  /-- Raised by `SendData` of no bytes, which the manual says a model should refuse (40_bus_primitives.md R142). Safe. -/
  | emptyDataFrame
  deriving DecidableEq, Repr

/-- What a framebuffer byte reads as where `fb` lists nothing. DESIGN CHOICE (log 10): the source gives no initial
contents; every contents is some `fb`. -/
abbrev unlisted : Byte := 0x00

/-- A host agent right after block reset (R45, R51). -/
def HostAgent.fresh (prog : List HostAction) : HostAgent where
  st := .free
  prog := prog
  status := none
  data := []

/-- The host agents of a block reset: at least one, and exactly one in `SYNC` mode (R45; log 12). -/
def launchHosts (m : Mode) : List (List HostAction) → List HostAgent
  | [] => [.fresh []]
  | p :: ps =>
    match m with
    | .sync => [.fresh p]
    | .coop => .fresh p :: ps.map .fresh

/-- The state right after a block reset under the parameters `cfg` and the environment `env`, with framebuffer contents
`fb` and host programs `progs`: every field as R51 gives it, `S.mode` sampled from `MODE_SEL`, the trace empty (R390). -/
def State.launch (cfg : Params) (env : Env) (fb : List Host.Cell) (progs : List (List HostAction)) : State where
  mode := env.modeSel
  seq := .idle
  row := 0
  lbusy := false
  signal := false
  waiters := []
  port := .free
  faultTp := false
  faultBc := false
  rst := Config.rstResetLevel
  panel := .unconfigured
  hosts := launchHosts env.modeSel progs
  fb := fb
  trace := []
  cfg := cfg
  issuer := 0
  env := env

/-- An environment with no input given: every draw and every turn is free. -/
def Env.idle (m : Mode) : Env where
  turns := []
  busy := []
  ok := []
  order := []
  drawn := 0
  modeSel := m
  tpSilent := false

/-- The machine right after reset. DESIGN CHOICE (log 9): the launch arguments are `MODE_SEL = SYNC`, one host with an
empty program, a framebuffer of zeros. -/
def State.reset : State :=
  .launch Params.default (.idle .sync) [] []

end Sys2Proof.Machine
end

