-- ==== Sys2Proof/Machine/Ops.lean ====
section
/-! DEFINITION. The named operations over the state: one update per field, the framebuffer, the draws, the bus and GPIO
primitives of 40_bus_primitives.md, `respond`, the two error entries of 60_exceptions.md, and the firing of
RefreshSession. A primitive that draws a value reads it with one function and takes it with another. -/

namespace Sys2Proof.Machine

/-! One update per field. -/

def State.setSeq (s : State) (v : Seq) : State := { s with seq := v }
def State.setRow (s : State) (v : Nat) : State := { s with row := v }
def State.setLbusy (s : State) (v : Bool) : State := { s with lbusy := v }
def State.setSignal (s : State) (v : Bool) : State := { s with signal := v }
def State.setWaiters (s : State) (v : List Nat) : State := { s with waiters := v }
def State.setPort (s : State) (v : Port) : State := { s with port := v }
def State.setFaultTp (s : State) (v : Bool) : State := { s with faultTp := v }
def State.setFaultBc (s : State) (v : Bool) : State := { s with faultBc := v }
def State.setRst (s : State) (v : Bool) : State := { s with rst := v }
def State.setPanel (s : State) (v : Panel) : State := { s with panel := v }
def State.setHosts (s : State) (v : List HostAgent) : State := { s with hosts := v }
def State.setFb (s : State) (v : List Host.Cell) : State := { s with fb := v }
def State.setTrace (s : State) (v : List Event) : State := { s with trace := v }
def State.setIssuer (s : State) (v : Nat) : State := { s with issuer := v }
def State.setEnv (s : State) (v : Env) : State := { s with env := v }

/-- Appends an event to the trace (00_scope.md R11). -/
def State.emit (s : State) (e : Event) : State := s.setTrace (s.trace ++ [e])

/-! The framebuffer (20_memory.md R70 to R76). -/

/-- The byte at offset `a`. -/
def Memory.read : List Host.Cell → Nat → Byte
  | [], _ => unlisted
  | (b, v) :: m, a => if a = b then v else Memory.read m a

/-- Writes the byte `v` at offset `a`, keeping the canonical form. -/
def Memory.write : List Host.Cell → Nat → Byte → List Host.Cell
  | [], a, v => if v = unlisted then [] else [(a, v)]
  | (b, w) :: m, a, v =>
    if a < b then (if v = unlisted then (b, w) :: m else (a, v) :: (b, w) :: m)
    else if a = b then (if v = unlisted then m else (a, v) :: m)
    else (b, w) :: Memory.write m a v

/-- The canonical form: offsets strictly rising and inside the framebuffer, no byte listed that an unlisted offset reads
as. -/
abbrev Memory.wf (m : List Host.Cell) : Prop :=
  m.Pairwise (fun x y => x.1 < y.1) ∧ ∀ c ∈ m, c.2 ≠ unlisted ∧ c.1 < Config.fbSize

/-- The framebuffer contents of a block reset's launch argument; pairs outside the framebuffer say nothing (R79). -/
def Memory.ofCells (cells : List Host.Cell) : List Host.Cell :=
  cells.foldl (fun m c => if c.1 < Config.fbSize then Memory.write m c.1 c.2 else m) []

/-- The bytes of offsets `addr .. addr + n - 1`, in increasing offset (R72, R74). -/
def Memory.readBytes (m : List Host.Cell) (addr n : Nat) : List Byte :=
  (List.range n).map fun i => Memory.read m (addr + i)

/-- `MemRead(addr, n)`, defined only in range (R72). -/
def State.memRead (s : State) (addr n : Nat) : Option (List Byte) :=
  if fbInRange addr n then some (Memory.readBytes s.fb addr n) else none

/-- `MemWrite(addr, 1, v)` of a host agent, refused out of range (R76). -/
def State.memWrite (s : State) (addr : Nat) (v : Byte) : Option State :=
  if addr < Config.fbSize then some (s.setFb (Memory.write s.fb addr v)) else none

/-! The draws (46_mode_mux.md R331). -/

/-- The level the next BUSY sample reads (40_bus_primitives.md R147). -/
def State.busyInput (s : State) : Bool :=
  match s.env.busy with
  | b :: _ => b
  | [] => Config.freeBusy s.env.drawn

/-- Takes that sample. -/
def Env.takeBusy (e : Env) : Env :=
  match e.busy with
  | _ :: bs => { e with busy := bs }
  | [] => { e with drawn := e.drawn + 1 }

/-- The result the transport gives the next frame (R145). -/
def State.tpResult (s : State) : Bool :=
  match s.env.ok with
  | b :: _ => b
  | [] => Config.freeOk s.env.drawn

/-- Takes that result. -/
def Env.takeOk (e : Env) : Env :=
  match e.ok with
  | _ :: bs => { e with ok := bs }
  | [] => { e with drawn := e.drawn + 1 }

/-- The turn that comes next (46_mode_mux.md R332). -/
def State.nextTurn (s : State) : Turn :=
  match s.env.turns with
  | t :: _ => t
  | [] => .agent (Config.freeAgent s.env.drawn)

/-- Takes that turn. -/
def Env.takeTurn (e : Env) : Env :=
  match e.turns with
  | _ :: ts => { e with turns := ts }
  | [] => { e with drawn := e.drawn + 1 }

/-- The state in which that turn is taken. -/
def State.takeTurn (s : State) : State := s.setEnv s.env.takeTurn

/-- The choice of where the waiter that has `j` others behind it stands in the answering order of a firing. -/
def Env.orderChoice (e : Env) (j : Nat) : Nat :=
  match e.order[j]? with
  | some k => k
  | none => Config.freeOrder (e.drawn + j)

/-- Takes the choices of a firing that answers `n` waiters. -/
def Env.takeOrder (e : Env) (n : Nat) : Env :=
  { e with order := e.order.drop n, drawn := e.drawn + n }

/-- A list in the order the choices `k` give: every order of it is one for some `k`. -/
def orderBy (k : Nat → Nat) : List Nat → List Nat
  | [] => []
  | w :: ws =>
    match orderBy k ws with
    | [] => [w]
    | r => r.insertIdx (k r.length % (r.length + 1)) w

/-! Host agents (10_state.md R45). -/

def HostAgent.setSt (r : HostAgent) (st : HostStatus) : HostAgent := { r with st := st }

/-- `H[h].st <- st`. -/
def State.setSt (s : State) (h : Nat) (st : HostStatus) : State :=
  s.setHosts (s.hosts.modify h (fun r => r.setSt st))

/-- `H[h].st`, where `h` is a host agent. -/
def State.st? (s : State) (h : Nat) : Option HostStatus := (s.hosts[h]?).map HostAgent.st

/-! SEQ (10_state.md R32, R34). -/

/-- Is the operation state `IDLE`? -/
def Seq.isIdle : Seq → Bool
  | .idle => true
  | .run _ _ _ => false
  | .segment _ _ _ _ => false

/-- The running operation. -/
def Seq.op? : Seq → Option Operation
  | .idle => none
  | .run op _ _ => some op
  | .segment op _ _ _ => some op

/-- `pc <- n` (R34). -/
def Seq.goto (n : Nat) : Seq → Seq
  | .idle => .idle
  | .run op h _ => .run op h n
  | .segment op h _ rest => .segment op h n rest

/-- `pc <- pc + 1` (R34). -/
def Seq.advance : Seq → Seq
  | .idle => .idle
  | .run op h pc => .run op h (pc + 1)
  | .segment op h pc rest => .segment op h (pc + 1) rest

/-- A fault bit is set: the block is stopped (60_exceptions.md R355). -/
def State.stopped (s : State) : Bool := s.faultTp || s.faultBc

/-- SEQ has a step (46_mode_mux.md R332). -/
def State.live (s : State) : Bool := !s.stopped && !s.seq.isIdle

/-- Performs `f` unless the operation has ended or the block has stopped: every statement after a failed frame is skipped
(60_exceptions.md R353, R360). -/
def State.andThen (s : State) (f : State → State) : State := if s.live then f s else s

/-! Responses and errors. -/

/-- `respond(h, code)` (30_encoding.md R110). -/
def State.respond (s : State) (h : Nat) (code : Response) : State :=
  let t := (s.setSt h .free).emit (.resp h code)
  if s.port = .held h then t.setPort .free else t

/-- `raise Fault(kind)`: the sticky bit and the event (60_exceptions.md R354, R356). The one entry into a fault. -/
def State.raiseFault (s : State) (kind : FaultKind) : State :=
  match kind with
  | .transport => (s.setFaultTp true).emit (.fault .transport)
  | .busConflict => (s.setFaultBc true).emit (.fault .busConflict)

/-- What a failed frame does to the operation it belongs to: `Fault(TRANSPORT)` in the background refresh (R354), else
`abort TransportError` (R353). -/
def State.abort (s : State) : State :=
  match s.seq with
  | .idle => s
  | .run .refreshCoop _ _ => s.raiseFault .transport
  | .segment .refreshCoop _ _ _ => s.raiseFault .transport
  | .run _ h _ => (s.setSeq .idle).respond h .transportError
  | .segment _ h _ _ => (s.setSeq .idle).respond h .transportError

/-! Bus and GPIO primitives (40_bus_primitives.md). -/

/-- One frame on the transport port (R140): the result is drawn, the event appended; a failed frame leaves the panel's
state unknown and ends the operation (R141, R142, R145). -/
def State.sendFrame (s : State) (dc : Select) (bytes : List Byte) : State :=
  let t := (s.setEnv s.env.takeOk).emit (.frame dc bytes s.tpResult)
  if s.tpResult then t else (t.setPanel .undefined).abort

/-- `SendCmd(op)` (R141). -/
def State.sendCmd (s : State) (op : Byte) : State := s.sendFrame .command [op]

/-- `SendData(l)` (R142), refused for the empty list. -/
def State.sendData (s : State) (l : List Byte) : Host.Outcome State Fault Refusal :=
  match l with
  | [] => .refused .emptyDataFrame
  | b :: bs => .next (s.sendFrame .data (b :: bs))

/-- `Cmd(op, l)` (R143): the command frame, then one data frame of all the parameter bytes if there are any and the
command frame did not fail. -/
def State.cmd (s : State) (op : Byte) (l : List Byte) : State :=
  match l with
  | [] => s.sendCmd op
  | b :: bs => (s.sendCmd op).andThen fun t => t.sendFrame .data (b :: bs)

/-- `SetRst(v)` (R146). -/
def State.driveRst (s : State) (v : Bool) : State := (s.setRst v).emit (.rst v)

/-- `SampleBusy()` (R147); the sample it returns is `s.busyInput`. -/
def State.sampleBusy (s : State) : State := (s.setEnv s.env.takeBusy).emit (.busy s.busyInput)

/-- `Delay(ms)` (R148): an event; at least `ms` milliseconds pass before the agent's next step. -/
def State.delay (s : State) (ms : Nat) : State := s.emit (.delay ms)

/-- `Yield()` (R149). -/
def State.yield (s : State) : State := s.emit .yield

/-! RefreshSession (10_state.md R41). -/

/-- The order in which the next firing answers the waiters: any order (log 6). -/
def State.answerOrder (s : State) : List Nat := orderBy s.env.orderChoice s.waiters

/-- `respond(h, OK)` for each host in the list, in its order. -/
def State.answerAll (s : State) (hs : List Nat) : State := hs.foldl (fun t h => t.respond h .ok) s

/-- A firing of RefreshSession (R41). -/
def State.fire (s : State) : State :=
  let t := s.setEnv (s.env.takeOrder s.waiters.length)
  ((((t.setSignal true).answerAll s.answerOrder).setWaiters []).setSignal false).emit .done

/-- `S.waiters ∪ {h}` as a strictly rising list. -/
def insertId (h : Nat) : List Nat → List Nat
  | [] => [h]
  | x :: xs => if h < x then h :: x :: xs else if h = x then x :: xs else x :: insertId h xs

/-- Panel bookkeeping at the acceptance of a REFRESH or POWER_ON (44_refresh.md R278, 45_power.md R312). -/
def State.bookkeep (s : State) : State :=
  if s.panel = .configured then s else s.setPanel .undefined

/-- Block reset with the launch arguments `l` (70_reset_and_hazards.md R390, R392): `S.mode` samples `MODE_SEL`; the
parameters and the environment stand. -/
def State.blockReset (s : State) (l : Launch) : State :=
  .launch s.cfg s.env (Memory.ofCells l.fb) l.progs

end Sys2Proof.Machine
end

