-- ==== Sys2Proof/Machine/Flags.lean ====
section
/-! DEFINITION. READY and the STATUS word (43_busy_monitor.md R240, 10_state.md R39). The block has no arithmetic flags
(R37). -/

namespace Sys2Proof.Machine

/-- `READY(b)` (43_busy_monitor.md R240). -/
def State.ready (s : State) (b : Bool) : Bool := !(s.lbusy || b)

/-- The STATUS word of a read whose BUSY sample is `b`, bit 7 first (10_state.md R39). -/
def State.statusWord (s : State) (b : Bool) : Byte :=
  BitVec.ofBool false ++ BitVec.ofBool s.faultBc ++ BitVec.ofBool s.faultTp ++ BitVec.ofBool (!s.seq.isIdle) ++
    BitVec.ofBool (decide (s.mode = .coop)) ++ BitVec.ofBool b ++ BitVec.ofBool s.lbusy ++ BitVec.ofBool (s.ready b)

end Sys2Proof.Machine
end

