-- ==== Sys2Proof/Machine/Operands.lean ====
section
/-! DEFINITION. The block's only operand forms: pixel positions in the framebuffer (20_memory.md R71), the row a `ROW`
sends (44_refresh.md R271), and the one panel command whose parameter depends on who sends it (30_encoding.md R104). -/

namespace Sys2Proof.Machine

/-- `offset(x, y)` (R71). -/
def pixelOffset (x y : Nat) : Nat := y * Config.stride + x / 8

/-- `bit(x, y)` (R71): most significant bit first. -/
def pixelBit (x : Nat) : Nat := 7 - x % 8

/-- `pixel(x, y)` of the framebuffer (R71). -/
def State.pixel (s : State) (x y : Nat) : Bool := (Memory.read s.fb (pixelOffset x y)).getLsbD (pixelBit x)

/-- The bytes of framebuffer row `r` (R72). -/
def State.rowBytes (s : State) (r : Nat) : List Byte := Memory.readBytes s.fb (r * Config.stride) Config.stride

/-- The bytes `ROW(r)` sends: every byte of the row complemented (44_refresh.md R271, 20_memory.md R73). -/
def State.rowFrame (s : State) (r : Nat) : List Byte := (s.rowBytes r).map fun b => ~~~b

/-- The parameter of display-update-control-2: 0xB1 in INIT (41_reset_init.md R183), 0xC7 in ACTIVATE (44_refresh.md
R273). -/
def Seq.updateControl (q : Seq) : Byte := if q.op? = some .init then 0xB1 else 0xC7

end Sys2Proof.Machine
end

