-- ==== Sys2Proof/Machine/Issue.lean ====
section
/-! DEFINITION. The checks every instruction starts with: those of a request's issue step in the order of 30_encoding.md
R111 (60_exceptions.md R359), and those of a panel command, which only SEQ sends (10_state.md R32). -/

namespace Sys2Proof.Machine

/-- What a step answers. -/
abbrev Result := Host.Outcome State Fault Refusal

/-- The issuing host agent is `Free` (R111). -/
def State.issuerFree (s : State) : Bool := decide (s.st? s.issuer = some .free)

/-- A request issued by `s.issuer`: nothing happens in a stopped block (R355), and an agent that is not `Free` issues
nothing (10_state.md R45). -/
def State.issue (s : State) (f : State → State) : Result :=
  if s.stopped then .fault .stopped else if s.issuerFree then .next (f s) else .next s

/-- The port-using part of the issue step (R111): no step while the port is held (R112); in `COOP` mode with
`S.lbusy = 1` what `conflict` says; else acceptance. -/
def State.issueOnPort (s : State) (conflict accept : State → State) : State :=
  match s.port with
  | .held _ => s
  | .free => if s.mode = .coop ∧ s.lbusy = true then conflict s else accept s

/-- `respond(h, code)` to the issuing agent. -/
def State.answer (s : State) (code : Response) : State := s.respond s.issuer code

/-- Acceptance of a request that holds the port (R111): `S.port <- Held(h); H[h].st <- Pending(op); S.seq <-
Run(opname(op), h, 0)`. -/
def State.accept (s : State) (req : Instr) (op : Operation) : State :=
  ((s.setPort (.held s.issuer)).setSt s.issuer (.pending req)).setSeq (.run op s.issuer 0)

/-- Acceptance of a `COOP` REFRESH (44_refresh.md R275); the port is never taken. -/
def State.acceptCoop (s : State) : State :=
  ((((s.setLbusy true).setRow 0).setSeq (.run .refreshCoop s.issuer 0)).bookkeep).answer .ok

/-- A panel command sent by SEQ with opcode `op` and parameter bytes `l`. SEQ sends nothing in a stopped block (R355),
while it is idle (R332), or while the transport returns no result (40_bus_primitives.md R144). -/
def State.seqCmd (s : State) (op : Byte) (l : List Byte) : Result :=
  if s.stopped then .fault .stopped
  else if s.seq.isIdle || s.env.tpSilent then .next s
  else .next (s.cmd op l)

end Sys2Proof.Machine
end

