-- ==== Sys2Proof/Machine/InitCommands.lean ====
section
/-! DEFINITION. The meanings of the panel commands INIT sends in its entries 4 and 6 (41_reset_init.md R181, R183), with
their parameter bytes (30_encoding.md R104). -/

namespace Sys2Proof.Machine

/-- SW_RESET, no parameters (R181 entry 4). -/
def execSwReset (s : State) : Result := s.seqCmd s.cfg.ops.swReset []

/-- DRIVER_OUTPUT_CONTROL(0xC7, 0x00, 0x01) (R183). -/
def execDriverOutputControl (s : State) : Result := s.seqCmd s.cfg.ops.driverOutputControl [0xC7, 0x00, 0x01]

/-- DATA_ENTRY_MODE(0x01) (R183). -/
def execDataEntryMode (s : State) : Result := s.seqCmd s.cfg.ops.dataEntryMode [0x01]

/-- RAM_X_RANGE(0, 24) (R183). -/
def execRamXRange (s : State) : Result := s.seqCmd s.cfg.ops.ramXRange [0x00, 0x18]

/-- RAM_Y_RANGE(199, 0, 0, 0) (R183). -/
def execRamYRange (s : State) : Result := s.seqCmd s.cfg.ops.ramYRange [0xC7, 0x00, 0x00, 0x00]

/-- BORDER_WAVEFORM(0x01) (R183). -/
def execBorderWaveform (s : State) : Result := s.seqCmd s.cfg.ops.borderWaveform [0x01]

/-- VENDOR_REG(0x80), the undocumented register (R183). -/
def execVendorReg (s : State) : Result := s.seqCmd s.cfg.ops.vendorReg [0x80]

/-- DISPLAY_UPDATE_CONTROL_2: 0xB1 in INIT (R183), 0xC7 in ACTIVATE (44_refresh.md R273). -/
def execDisplayUpdateControl2 (s : State) : Result :=
  s.seqCmd Config.opDisplayUpdateControl2 [s.seq.updateControl]

/-- MASTER_ACTIVATION, no parameters (R183, 44_refresh.md R273). -/
def execMasterActivation (s : State) : Result := s.seqCmd Config.opMasterActivation []

/-- RAM_X_CURSOR(0) (R183). -/
def execRamXCursor (s : State) : Result := s.seqCmd s.cfg.ops.ramXCursor [0x00]

/-- RAM_Y_CURSOR(199, 0) (R183). -/
def execRamYCursor (s : State) : Result := s.seqCmd s.cfg.ops.ramYCursor [0xC7, 0x00]

end Sys2Proof.Machine
end

