-- ==== Sys2Proof/Machine/RefreshCommands.lean ====
section
/-! DEFINITION. The meanings of the panel commands REFRESH and SLEEP send (44_refresh.md R271 to R276, 45_power.md R314). -/

namespace Sys2Proof.Machine

/-- WRITE_RAM_BW: its command frame (44_refresh.md R272 entry 1, R276 entry 0). The `HEIGHT` data frames that follow it
are each a `ROW` of the step table. -/
def execWriteRamBw (s : State) : Result := s.seqCmd s.cfg.ops.writeRamBw []

/-- DEEP_SLEEP(0x01) (45_power.md R314). -/
def execDeepSleep (s : State) : Result := s.seqCmd s.cfg.ops.deepSleep [0x01]

end Sys2Proof.Machine
end

