-- ==== Sys2Proof/Machine/Requests.lean ====
section
/-! DEFINITION. The meanings of the host requests: the issue step of 30_encoding.md R111 for each. The operation an
accepted request starts runs on SEQ in later steps (Machine/Tables.lean, Machine/Sequencer.lean). -/

namespace Sys2Proof.Machine

/-- INIT (41_reset_init.md R180). -/
def execInit (s : State) : Result :=
  s.issue fun t => t.issueOnPort (fun u => u.raiseFault .busConflict) (fun u => u.accept .init .init)

/-- REFRESH: blocking in `SYNC` mode (44_refresh.md R270), in the background or `BUSY` in `COOP` mode (R275). -/
def execRefresh (s : State) : Result :=
  s.issue fun t => t.issueOnPort (fun u => u.answer .busy) fun u =>
    match u.mode with
    | .coop => u.acceptCoop
    | .sync => ((u.accept .refresh .refreshSync).setRow 0).bookkeep

/-- POWER_ON (45_power.md R310, R312). -/
def execPowerOn (s : State) : Result :=
  s.issue fun t => t.issueOnPort (fun u => u.raiseFault .busConflict) (fun u => (u.accept .powerOn .powerOn).bookkeep)

/-- SLEEP (45_power.md R314). -/
def execSleep (s : State) : Result :=
  s.issue fun t => t.issueOnPort (fun u => u.raiseFault .busConflict) (fun u => u.accept .sleep .sleep)

/-- WAIT_READY: `H[h].st <- WaitReady(first = (S.mode = COOP))` (43_busy_monitor.md R246). -/
def execWaitReady (s : State) : Result :=
  s.issue fun t => t.setSt t.issuer (.waitReady (decide (t.mode = .coop)))

/-- WAIT_DONE: `ILLEGAL` in `SYNC` mode, else joins `S.waiters` (43_busy_monitor.md R249). -/
def execWaitDone (s : State) : Result :=
  s.issue fun t =>
    match t.mode with
    | .sync => t.answer .illegal
    | .coop => (t.setWaiters (insertId t.issuer t.waiters)).setSt t.issuer .waitDone

/-- The reserved code 0x0 (30_encoding.md R107, 60_exceptions.md R352). -/
def execReserved0 (s : State) : Result := s.issue fun t => t.answer .illegal

/-- The reserved code 0x7 (R107, R352). -/
def execReserved7 (s : State) : Result := s.issue fun t => t.answer .illegal

/-- The reserved codes 0x8 to 0xF (R107, R352); which of them it is changes nothing. -/
def execReserved8 (_code : ReqWord) (s : State) : Result := s.issue fun t => t.answer .illegal

end Sys2Proof.Machine
end

