-- ==== Sys2Proof/Machine/Waveform.lean ====
section
/-! DEFINITION. The meanings of the panel commands of the Waveform Loader (42_waveform.md R220 to R222). The values 0x22
and 0x20 here are parameter bytes (R222). -/

namespace Sys2Proof.Machine

/-- WRITE_LUT: `WAVEFORM_LUT[0..226]` as one data frame (R221). -/
def execWriteLut (s : State) : Result := s.seqCmd s.cfg.ops.writeLut s.cfg.lut

/-- DRIVE_CONTROL(0x22) (R222). -/
def execDriveControl (s : State) : Result := s.seqCmd s.cfg.ops.driveControl [0x22]

/-- GATE_VOLTAGE(0x17) (R222). -/
def execGateVoltage (s : State) : Result := s.seqCmd s.cfg.ops.gateVoltage [0x17]

/-- SOURCE_VOLTAGE(0x41, 0x00, 0x32) (R222). -/
def execSourceVoltage (s : State) : Result := s.seqCmd s.cfg.ops.sourceVoltage [0x41, 0x00, 0x32]

/-- VCOM(0x20) (R222). -/
def execVcom (s : State) : Result := s.seqCmd s.cfg.ops.vcom [0x20]

end Sys2Proof.Machine
end

