-- ==== Sys2Proof/Machine/Dispatch.lean ====
section
/-! DEFINITION. The meaning of every instruction, one arm each. -/

namespace Sys2Proof.Machine

def exec (i : Instr) (s : State) : Host.Outcome State Fault Refusal :=
  match i with
  -- host requests
  | .init => Sys2Proof.Machine.execInit s
  | .refresh => Sys2Proof.Machine.execRefresh s
  | .powerOn => Sys2Proof.Machine.execPowerOn s
  | .sleep => Sys2Proof.Machine.execSleep s
  | .waitReady => Sys2Proof.Machine.execWaitReady s
  | .waitDone => Sys2Proof.Machine.execWaitDone s
  | .reserved0 => Sys2Proof.Machine.execReserved0 s
  | .reserved7 => Sys2Proof.Machine.execReserved7 s
  | .reserved8 code => Sys2Proof.Machine.execReserved8 code s
  -- panel commands
  | .swReset => Sys2Proof.Machine.execSwReset s
  | .driverOutputControl => Sys2Proof.Machine.execDriverOutputControl s
  | .dataEntryMode => Sys2Proof.Machine.execDataEntryMode s
  | .ramXRange => Sys2Proof.Machine.execRamXRange s
  | .ramYRange => Sys2Proof.Machine.execRamYRange s
  | .borderWaveform => Sys2Proof.Machine.execBorderWaveform s
  | .vendorReg => Sys2Proof.Machine.execVendorReg s
  | .displayUpdateControl2 => Sys2Proof.Machine.execDisplayUpdateControl2 s
  | .masterActivation => Sys2Proof.Machine.execMasterActivation s
  | .ramXCursor => Sys2Proof.Machine.execRamXCursor s
  | .ramYCursor => Sys2Proof.Machine.execRamYCursor s
  | .writeLut => Sys2Proof.Machine.execWriteLut s
  | .driveControl => Sys2Proof.Machine.execDriveControl s
  | .gateVoltage => Sys2Proof.Machine.execGateVoltage s
  | .sourceVoltage => Sys2Proof.Machine.execSourceVoltage s
  | .vcom => Sys2Proof.Machine.execVcom s
  | .writeRamBw => Sys2Proof.Machine.execWriteRamBw s
  | .deepSleep => Sys2Proof.Machine.execDeepSleep s

end Sys2Proof.Machine
end

