-- ==== Sys2Proof/Machine/Hosts.lean ====
section
/-! DEFINITION. A host agent's step (10_state.md R45, 46_mode_mux.md R332): an issue, a STATUS read, a framebuffer access,
or a poll of WAIT_READY; and the host programs of 30_encoding.md R109. -/

namespace Sys2Proof.Machine

/-- `FILL v` (R109): a framebuffer byte write of `v` at every offset, in increasing order. -/
def fillProgram (v : Byte) : List HostAction := (List.range Config.fbSize).map fun a => .write a v

/-- `SHOW_COOP` (R109): `WAIT_READY; REFRESH; WAIT_DONE`. -/
def showCoopProgram : List HostAction := [.request 0x5, .request 0x2, .request 0x6]

/-- The requests that need the port (30_encoding.md R101, R111). -/
def usesPort : Instr → Bool
  | .init | .refresh | .powerOn | .sleep => true
  | .waitReady | .waitDone | .reserved0 | .reserved7 | .reserved8 _ => false
  | .swReset | .driverOutputControl | .dataEntryMode | .ramXRange | .ramYRange | .borderWaveform => false
  | .vendorReg | .displayUpdateControl2 | .masterActivation | .ramXCursor | .ramYCursor | .writeLut => false
  | .driveControl | .gateVoltage | .sourceVoltage | .vcom | .writeRamBw | .deepSleep => false

/-- The issue of `i` has no step because the port is held (R112). -/
def State.issueHeld (s : State) (i : Instr) : Bool := usesPort i && decide (s.port ≠ .free)

/-- Host agent `h`, with `rest` of its program still to come. -/
def State.setProg (s : State) (h : Nat) (rest : List HostAction) : State :=
  s.setHosts (s.hosts.modify h fun r => { r with prog := rest })

/-- Host agent `h` takes the line before `rest` off its program and becomes the issuing agent. -/
def State.beginIssue (s : State) (h : Nat) (rest : List HostAction) : State := (s.setProg h rest).setIssuer h

/-- A STATUS read by host agent `h` (10_state.md R39, R40): one BUSY sample, and the word computed from it. -/
def State.readStatus (s : State) (h : Nat) : State :=
  let w := s.statusWord s.busyInput
  let t := s.sampleBusy
  t.setHosts (t.hosts.modify h fun r => { r with status := some w })

/-- A framebuffer write by a host agent (20_memory.md R76). -/
def State.hostWrite (s : State) (addr : Nat) (v : Byte) : Result :=
  match s.memWrite addr v with
  | some t => .next t
  | none => .refused .framebufferRange

/-- A framebuffer read by host agent `h` (20_memory.md R72, R76). -/
def State.hostRead (s : State) (h addr n : Nat) : Result :=
  match s.memRead addr n with
  | some l => .next (s.setHosts (s.hosts.modify h fun r => { r with data := l }))
  | none => .refused .framebufferRange

/-- A poll of WAIT_READY by host agent `h` (43_busy_monitor.md R246). -/
def State.pollReady (s : State) (h : Nat) : State :=
  if s.ready s.busyInput then s.sampleBusy.respond h .ok else s.sampleBusy.delay Config.tPoll

/-- The step of a `Free` host agent whose program is `prog`. -/
def State.freeStep (s : State) (h : Nat) (prog : List HostAction) : Result :=
  match prog with
  | [] => .next s
  | .request w :: rest =>
    if s.issueHeld (decodeRequest w) then .next s else exec (decodeRequest w) (s.beginIssue h rest)
  | .status :: rest => .next ((s.setProg h rest).readStatus h)
  | .write addr v :: rest => (s.setProg h rest).hostWrite addr v
  | .read addr n :: rest => (s.setProg h rest).hostRead h addr n

/-- Host agent `h`'s step in a block that is not stopped. An agent that has no step changes nothing (log 2). -/
def State.hostStep (s : State) (h : Nat) : Result :=
  match s.hosts[h]? with
  | none => .next s
  | some r =>
    match r.st with
    | .free => s.freeStep h r.prog
    | .waitReady true => .next (s.yield.setSt h (.waitReady false))
    | .waitReady false => .next (s.pollReady h)
    | .pending _ => .next s
    | .waitDone => .next s

end Sys2Proof.Machine
end

