-- ==== Sys2Proof/Machine/Tables.lean ====
section
/-! DEFINITION. The constant storage of the block (20_memory.md R90): the command sequences and the step tables, one
entry per list of statements. No step writes them (R85). Where an entry ends with a delay or a yield its `pc` update
stands before it, as 44_refresh.md R276 writes it; the end of the step is the end of the entry (40_bus_primitives.md
R150). -/

namespace Sys2Proof.Machine

/-- `INIT_TABLE`, the fixed sequence of INIT step (d) (41_reset_init.md R183); the parameters are in each command's meaning. -/
def initTable : List Instr :=
  [.driverOutputControl, .dataEntryMode, .ramXRange, .ramYRange, .borderWaveform, .vendorReg, .displayUpdateControl2,
   .masterActivation, .ramXCursor, .ramYCursor]

/-- The Waveform Loader: the LUT, then `WAVEFORM_REGS` (42_waveform.md R220, R222). -/
def waveformSeq : List Instr := [.writeLut, .driveControl, .gateVoltage, .sourceVoltage, .vcom]

/-- ACTIVATE, `POWER_ON_SEQ` (44_refresh.md R273, 20_memory.md R90). -/
def activateSeq : List Instr := [.displayUpdateControl2, .masterActivation]

/-- `SLEEP_SEQ` (45_power.md R314). -/
def sleepSeq : List Instr := [.deepSleep]

/-- The statements that send the commands of a sequence in order. -/
def sendSeq (l : List Instr) : List Stmt := l.map .send

/-- The INIT step table (41_reset_init.md R181). -/
def initEntries : List (List Stmt) :=
  [[.setRst true, .advance, .delay Config.tRstSettle],
   [.setRst false, .advance, .delay Config.tRstSettle],
   [.setRst true, .advance, .delay Config.tRstSettle],
   [.poll],
   [.send .swReset, .advance],
   [.poll],
   sendSeq initTable ++ [.advance],
   [.poll],
   sendSeq waveformSeq ++ [.advance],
   [.configured, .finish]]

/-- The `REFRESH_SYNC` step table (44_refresh.md R272). -/
def refreshSyncEntries : List (List Stmt) :=
  [[.poll],
   [.send .writeRamBw, .advance],
   [.row, .next 2 3],
   sendSeq activateSeq ++ [.advance],
   [.poll],
   [.finish]]

/-- The `REFRESH_COOP` step table (44_refresh.md R276). -/
def refreshCoopEntries : List (List Stmt) :=
  [[.send .writeRamBw, .row, .advance, .yield],
   [.row, .next 1 2, .yield],
   sendSeq activateSeq ++ [.advance, .yield],
   [.coopPoll]]

/-- The POWER_ON step table (45_power.md R310). -/
def powerOnEntries : List (List Stmt) :=
  [sendSeq activateSeq ++ [.advance],
   [.poll],
   [.finish]]

/-- The SLEEP step table (45_power.md R314). -/
def sleepEntries : List (List Stmt) :=
  [sendSeq sleepSeq ++ [.advance],
   [.asleep, .finish]]

/-- The step table of an operation (10_state.md R34). -/
def stepTable : Operation → List (List Stmt)
  | .init => initEntries
  | .refreshSync => refreshSyncEntries
  | .refreshCoop => refreshCoopEntries
  | .powerOn => powerOnEntries
  | .sleep => sleepEntries

/-- The entry that sends a panel command alone or among others, and its operation (opcode_table.json `sent_by`); for
ACTIVATE's two commands, POWER_ON entry 0. A host request is sent by no entry. -/
def sentBy : Instr → Option (Operation × Nat)
  | .swReset => some (.init, 4)
  | .driverOutputControl | .dataEntryMode | .ramXRange | .ramYRange | .borderWaveform | .vendorReg => some (.init, 6)
  | .ramXCursor | .ramYCursor => some (.init, 6)
  | .writeLut | .driveControl | .gateVoltage | .sourceVoltage | .vcom => some (.init, 8)
  | .displayUpdateControl2 | .masterActivation => some (.powerOn, 0)
  | .writeRamBw => some (.refreshSync, 1)
  | .deepSleep => some (.sleep, 0)
  | .init | .refresh | .powerOn | .sleep | .waitReady | .waitDone | .reserved0 | .reserved7 | .reserved8 _ => none

/-- The request whose operation this is (30_encoding.md R111, `opname`). -/
def Operation.request : Operation → Instr
  | .init => .init
  | .refreshSync => .refresh
  | .refreshCoop => .refresh
  | .powerOn => .powerOn
  | .sleep => .sleep

end Sys2Proof.Machine
end

