-- ==== Sys2Proof/Machine/Sequencer.lean ====
section
/-! DEFINITION. The sequencer engine SEQ (10_state.md R32, R34): what each statement of a step table does, and one SEQ
step. A panel command in a table is run by `exec`. -/

namespace Sys2Proof.Machine

/-- The state a panel command's meaning answers; inside a step it always answers one. -/
def answeredState (r : Result) (s : State) : State :=
  match r with
  | .next t => t
  | .fault _ => s
  | .refused _ => s

/-- `ROW(S.row)` (44_refresh.md R271): one data frame of the complemented row, then `S.row <- S.row + 1`. -/
def State.sendRow (s : State) : State :=
  (s.sendFrame .data (s.rowFrame s.row)).andThen fun t => t.setRow (t.row + 1)

/-- COMPLETE (44_refresh.md R277). -/
def State.complete (s : State) : State := ((s.fire).setLbusy false).setSeq .idle

/-- `S.seq <- IDLE; respond(h, OK)` for the requester `h` of the running operation (41_reset_init.md R186). -/
def State.finish (s : State) : State :=
  match s.seq with
  | .idle => s
  | .run _ h _ => (s.setSeq .idle).respond h .ok
  | .segment _ h _ _ => (s.setSeq .idle).respond h .ok

/-- One statement of a step table. -/
def State.runStmt (s : State) (c : Stmt) : State :=
  match c with
  | .setRst v => s.driveRst v
  | .delay ms => s.delay ms
  | .yield => s.yield
  | .send i => answeredState (exec i s) s
  | .row => s.sendRow
  | .poll =>
    if s.busyInput then s.sampleBusy.delay Config.tPoll else s.sampleBusy.setSeq s.seq.advance
  | .coopPoll => if s.busyInput then s.sampleBusy.delay Config.tPoll else s.sampleBusy.complete
  | .advance => s.setSeq s.seq.advance
  | .next again exit => s.setSeq (s.seq.goto (if s.row < Config.height then again else exit))
  | .configured => s.setPanel .configured
  | .asleep => s.setPanel (if s.panel = .configured then .asleep else .undefined)
  | .finish => s.finish

/-- The statements of an entry in order; those after the end of the operation or a fault are skipped (60_exceptions.md
R353, R360). -/
def State.runStmts (s : State) : List Stmt → State
  | [] => s
  | c :: cs => (s.runStmt c).andThen fun t => t.runStmts cs

/-- Does the statement use the transport? -/
def Stmt.usesTransport : Stmt → Bool
  | .send _ => true
  | .row => true
  | .setRst _ | .delay _ | .yield | .poll | .coopPoll | .advance | .next _ _ | .configured | .asleep | .finish => false

/-- Performs the statements `body` in one SEQ step from `s`, or from `original` where SEQ has no step because the
transport returns no result (40_bus_primitives.md R144; log 5). -/
def State.runEntry (original s : State) (body : List Stmt) : Result :=
  if s.env.tpSilent && body.any Stmt.usesTransport then .next original
  else if body.contains .row && !decide (s.row < Config.height) then .refused .rowRange
  else .next (s.runStmts body)

/-- SEQ's step in a block that is not stopped (10_state.md R34, 46_mode_mux.md R332). -/
def State.seqStep (s : State) : Result :=
  match s.seq with
  | .idle => .next s
  | .run op _ pc =>
    match (stepTable op)[pc]? with
    | some body => s.runEntry s body
    | none => .fault .noEntry
  | .segment op h pc rest => s.runEntry (s.setSeq (.run op h pc)) rest

end Sys2Proof.Machine
end

