-- ==== Sys2Proof/Machine/Turns.lean ====
section
/-! DEFINITION. One turn of the schedule, and where the next instruction is fetched from: the program of the host agent
whose turn it is, or the statements SEQ is about to perform (log 15, 16, 17). -/

namespace Sys2Proof.Machine

/-- An agent's step; none in a stopped block (60_exceptions.md R355). -/
def State.agentStep (s : State) (a : Agent) : Result :=
  if s.stopped then .fault .stopped
  else
    match a with
    | .seq => s.seqStep
    | .host h => s.hostStep h

/-- What a turn does, the turn itself already taken. -/
def State.runTurn (s : State) (t : Turn) : Result :=
  match t with
  | .agent a => s.agentStep a
  | .blockReset l => .next (s.blockReset l)
  | .strap m => .next (s.setEnv { s.env with modeSel := m })
  | .transport silent => .next (s.setEnv { s.env with tpSilent := silent })

/-- Gives the next turn to `t`, before those that were to come. -/
def State.withTurn (s : State) (t : Turn) : State := s.setEnv { s.env with turns := t :: s.env.turns }

/-- Places a request word at the head of host agent 0's program, with the agent `Free` and the next turn its own. -/
def State.placeRequest (s : State) (w : ReqWord) : State :=
  let hosts :=
    match s.hosts with
    | [] => [.fresh [.request w]]
    | r :: rs => { r with st := .free, prog := .request w :: r.prog } :: rs
  (s.setHosts hosts).withTurn (.agent (.host 0))

/-- Places SEQ inside the entry that sends the panel command `i`, with `i` the next statement, run for host agent 0 which
holds the port, and the next turn its own. A host request is sent by no entry and changes nothing. -/
def State.placeCommand (s : State) (i : Instr) : State :=
  match sentBy i with
  | some (op, pc) =>
    (((s.setSt 0 (.pending op.request)).setPort (.held 0)).setSeq (.segment op 0 pc [.send i, .advance])).withTurn
      (.agent .seq)
  | none => s

end Sys2Proof.Machine
end

