-- ==== Sys2Proof/Machine/Step.lean ====
section
/-! DEFINITION. One step of the machine: the next turn is taken and run (46_mode_mux.md R332). -/

namespace Sys2Proof.Machine

/-- One step: takes the next turn and runs it. -/
def step (s : State) : Host.Outcome State Fault Refusal := s.takeTurn.runTurn s.nextTurn

/-- `s` with the instruction of the bits `w` of spec/opcode_table.json where `step` fetches its next one: a request at the
head of host agent 0's program, a panel command as SEQ's next statement (log 16, 17). -/
def State.withFetchWord (s : State) (nbits w : Nat) : State :=
  match tableCode nbits w with
  | none => s
  | some (.request r) => s.placeRequest r
  | some (.frame f) =>
    match decode s.cfg.ops (.frame f) with
    | .ok i => s.placeCommand i
    | .error _ => s

end Sys2Proof.Machine
end

