-- ==== Sys2Proof/Safety.lean ====
section
/-! DEFINITION. What claims are stated in: the invariant of the reachable states, the end of a run, what a trace holds,
the traces the spec writes out, and the premises a claim about progress or about the panel's health must name. -/

namespace Sys2Proof.Safety

open Sys2Proof.Machine

/-! The invariant. -/

/-- `S.row` fits the entry a refresh stands at (10_state.md R35, 44_refresh.md R272, R276): 0 before the first row, below
`HEIGHT` while rows are left, so that `ROW(S.row)` has a row (20_memory.md R72), and `HEIGHT` after the last. -/
def RowFits : Operation → Nat → Nat → Prop
  | .refreshSync, pc, row =>
    (pc ≤ 1 → row = 0) ∧ (pc = 2 → row < Config.height) ∧ (3 ≤ pc → row = Config.height)
  | .refreshCoop, pc, row =>
    (pc = 0 → row = 0) ∧ (pc = 1 → row < Config.height) ∧ (2 ≤ pc → row = Config.height)
  | .init, _, _ => True
  | .powerOn, _, _ => True
  | .sleep, _, _ => True

/-- SEQ's state fits the rest of the state: it is `IDLE` exactly when the port is free and no background refresh is in
flight (30_encoding.md R113); a running operation stands at an entry of its table (10_state.md R34); the background
refresh runs in `COOP` mode with `S.lbusy = 1` and the port free, every other operation for the host that holds the port
and waits (10_state.md R38, R44, R45), the blocking refresh in `SYNC` mode only; and no step leaves SEQ inside an entry
(00_scope.md R10). -/
def SeqInv (s : State) : Prop :=
  match s.seq with
  | .idle => s.port = .free ∧ s.lbusy = false
  | .run op h pc =>
    pc < (stepTable op).length ∧
    (if op = .refreshCoop then s.mode = .coop ∧ s.lbusy = true ∧ s.port = .free
      else s.lbusy = false ∧ s.port = .held h ∧ s.st? h = some (.pending op.request)) ∧
    (op = .refreshSync → s.mode = .sync) ∧ RowFits op pc s.row
  | .segment _ _ _ _ => False

/-- The invariant every step keeps (`Obligations.StepKeepsInvariant`) and reset has. -/
structure Invariant (s : State) : Prop where
  /-- The framebuffer list is canonical and holds offsets of the framebuffer only (20_memory.md R79). -/
  memory : Memory.wf s.fb
  /-- `S.signal` is 0 at every step boundary (10_state.md R42). -/
  signal : s.signal = false
  /-- `S.row` is 0 to `HEIGHT` (R35). -/
  row : s.row ≤ Config.height
  seq : SeqInv s
  /-- An agent whose holding request is unanswered holds the port (R44, R45). -/
  pending : ∀ h i, s.st? h = some (.pending i) → s.port = .held h
  /-- `S.waiters` are the agents blocked in WAIT_DONE (R41, R45). -/
  waiting : ∀ h, h ∈ s.waiters ↔ s.st? h = some .waitDone
  rising : s.waiters.Pairwise (· < ·)
  /-- In `SYNC` mode the flag is 0 and no one waits (R38, 43_busy_monitor.md R249), and there is one host (R45). -/
  sync : s.mode = .sync → s.lbusy = false ∧ s.waiters = [] ∧ s.hosts.length = 1
  /-- There is a host agent (00_scope.md R4). -/
  hosts : s.hosts ≠ []

/-! Ends and stops. -/

/-- The end of a run (46_mode_mux.md R338). -/
structure EndOfRun (s : State) : Prop where
  idle : s.seq = .idle
  noWaiter : s.waiters = []
  finished : ∀ r ∈ s.hosts, r.st = .free ∧ r.prog = []
  noFault : s.faultTp = false ∧ s.faultBc = false

/-- No agent can step (60_exceptions.md R355). -/
def Quiescent (s : State) : Prop := ∀ a, s.agentStep a = .fault .stopped

/-- What block reset leaves under the strap level `m` (10_state.md R51; the trace: 70_reset_and_hazards.md R390). -/
structure AfterReset (m : Mode) (t : State) : Prop where
  mode : t.mode = m
  seq : t.seq = .idle
  row : t.row = 0
  lbusy : t.lbusy = false
  signal : t.signal = false
  waiters : t.waiters = []
  port : t.port = .free
  faults : t.faultTp = false ∧ t.faultBc = false
  rst : t.rst = true
  panel : t.panel = .unconfigured
  hosts : ∀ r ∈ t.hosts, r.st = .free
  status7 : ∀ b, (t.statusWord b).getLsbD 7 = false
  trace : t.trace = []

/-- `n` steps of the machine, stopping at the first that answers no next state. -/
def runFor (n : Nat) (s : State) : Result := Sys2Proof.core.run n s

/-- The next turn is no block reset. -/
def NoReset (s : State) : Prop := ∀ l, s.nextTurn ≠ .blockReset l

/-! What a trace holds (00_scope.md R11). -/

/-- The frame of an event, if it is one. -/
def eventFrame : Event → Option Frame
  | .frame dc l _ => some ⟨dc, l⟩
  | .rst _ | .delay _ | .busy _ | .yield | .resp _ _ | .done | .fault _ => none

/-- The frames of a trace, in order. -/
def frames (t : List Event) : List Frame := t.filterMap eventFrame

/-- The milliseconds an event lasts at least (40_bus_primitives.md R148). -/
def eventMs : Event → Nat
  | .delay ms => ms
  | .rst _ | .busy _ | .yield | .frame _ _ _ | .resp _ _ | .done | .fault _ => 0

/-- The sum of a trace's delays: a lower bound of the time it takes where they are all one agent's, as in the traces of one
operation (70_reset_and_hazards.md R410, R411). Delays of two agents may overlap (40_bus_primitives.md R148). -/
def elapsedMs (t : List Event) : Nat := (t.map eventMs).sum

/-- An activation event: the `CMD 0x20` frame (R401). -/
def isActivation : Event → Bool
  | .frame .command [b] _ => b == Config.opMasterActivation
  | .frame _ _ _ | .rst _ | .delay _ | .busy _ | .yield | .resp _ _ | .done | .fault _ => false

/-! The traces the spec writes out, every frame answered with success. -/

/-- `CMD op` and, if there are parameters, one `DATA` (30_encoding.md R109, 40_bus_primitives.md R143). -/
def cmdTrace (op : Byte) (l : List Byte) : List Event :=
  if l = [] then [.frame .command [op] true] else [.frame .command [op] true, .frame .data l true]

/-- ACTIVATE: `CMD 0x22; DATA [0xC7]; CMD 0x20` (44_refresh.md R273). -/
def activateTrace : List Event := cmdTrace 0x22 [0xC7] ++ cmdTrace 0x20 []

/-- The frames of `INIT_TABLE` (41_reset_init.md R183, R187). -/
def initTableTrace (p : Params) : List Event :=
  cmdTrace p.ops.driverOutputControl [0xC7, 0x00, 0x01] ++ cmdTrace p.ops.dataEntryMode [0x01] ++
  cmdTrace p.ops.ramXRange [0x00, 0x18] ++ cmdTrace p.ops.ramYRange [0xC7, 0x00, 0x00, 0x00] ++
  cmdTrace p.ops.borderWaveform [0x01] ++ cmdTrace p.ops.vendorReg [0x80] ++ cmdTrace 0x22 [0xB1] ++ cmdTrace 0x20 [] ++
  cmdTrace p.ops.ramXCursor [0x00] ++ cmdTrace p.ops.ramYCursor [0xC7, 0x00]

/-- The frames of the Waveform Loader (42_waveform.md R220). -/
def waveformTrace (p : Params) : List Event :=
  cmdTrace p.ops.writeLut p.lut ++ cmdTrace p.ops.driveControl [0x22] ++ cmdTrace p.ops.gateVoltage [0x17] ++
  cmdTrace p.ops.sourceVoltage [0x41, 0x00, 0x32] ++ cmdTrace p.ops.vcom [0x20]

/-- The whole INIT trace of host `h` with every poll's first sample 0 (41_reset_init.md R187). -/
def initTrace (p : Params) (h : Nat) : List Event :=
  [.rst true, .delay 200, .rst false, .delay 200, .rst true, .delay 200, .busy false] ++ cmdTrace p.ops.swReset [] ++
  [.busy false] ++ initTableTrace p ++ [.busy false] ++ waveformTrace p ++ [.resp h .ok]

/-- `k` busy samples of a poll: `BUSY 1; DELAY 100` each (43_busy_monitor.md R243). -/
def busyTrace : Nat → List Event
  | 0 => []
  | k + 1 => [.busy true, .delay 100] ++ busyTrace k

/-- The data frame of framebuffer row `r` (44_refresh.md R271, R280). -/
def rowEvent (fb : List Host.Cell) (r : Nat) : Event :=
  .frame .data ((Memory.readBytes fb (25 * r) 25).map fun b => ~~~b) true

/-- Rows 0 to 199, in order, each followed by the events `after` (44_refresh.md R280 to R282). -/
def rowsTrace (fb : List Host.Cell) (after : List Event) : List Event :=
  (List.range 200).flatMap fun r => rowEvent fb r :: after

/-! The panel command map, and the frames of a command. -/

/-- The commands INIT sends in its entries 4 and 6, each with its opcode and its parameter bytes (30_encoding.md R104,
41_reset_init.md R183). -/
def initCommandBytes (p : Params) : List (Instr × Byte × List Byte) :=
  [(.swReset, p.ops.swReset, []), (.driverOutputControl, p.ops.driverOutputControl, [0xC7, 0x00, 0x01]),
   (.dataEntryMode, p.ops.dataEntryMode, [0x01]), (.ramXRange, p.ops.ramXRange, [0x00, 0x18]),
   (.ramYRange, p.ops.ramYRange, [0xC7, 0x00, 0x00, 0x00]), (.borderWaveform, p.ops.borderWaveform, [0x01]),
   (.vendorReg, p.ops.vendorReg, [0x80]), (.displayUpdateControl2, 0x22, [0xB1]), (.masterActivation, 0x20, []),
   (.ramXCursor, p.ops.ramXCursor, [0x00]), (.ramYCursor, p.ops.ramYCursor, [0xC7, 0x00])]

/-- The commands of the Waveform Loader (R104, 42_waveform.md R220 to R222). -/
def waveformCommandBytes (p : Params) : List (Instr × Byte × List Byte) :=
  [(.writeLut, p.ops.writeLut, p.lut), (.driveControl, p.ops.driveControl, [0x22]),
   (.gateVoltage, p.ops.gateVoltage, [0x17]), (.sourceVoltage, p.ops.sourceVoltage, [0x41, 0x00, 0x32]),
   (.vcom, p.ops.vcom, [0x20])]

/-- The commands REFRESH, POWER_ON and SLEEP send (R104, 44_refresh.md R273, 45_power.md R314). -/
def refreshPowerCommandBytes (p : Params) : List (Instr × Byte × List Byte) :=
  [(.writeRamBw, p.ops.writeRamBw, []), (.displayUpdateControl2, 0x22, [0xC7]), (.masterActivation, 0x20, []),
   (.deepSleep, p.ops.deepSleep, [0x01])]

/-- The commands an operation can send. -/
def commandBytes (p : Params) (q : Operation) : List (Instr × Byte × List Byte) :=
  if q = .init then initCommandBytes p ++ waveformCommandBytes p else refreshPowerCommandBytes p

/-- The next `n` frames are answered with success. -/
def FramesSucceed : Nat → State → Prop
  | 0, _ => True
  | n + 1, s => s.tpResult = true ∧ FramesSucceed n (s.setEnv s.env.takeOk)

/-! Runs, and who has a step in them. -/

/-- A run of the machine. -/
def IsRun (r : Nat → State) : Prop := ∀ n, step (r n) = .next (r (n + 1))

/-- The statements SEQ's next step performs. -/
def seqBody (s : State) : List Stmt :=
  match s.seq with
  | .idle => []
  | .run op _ pc => ((stepTable op)[pc]?).getD []
  | .segment _ _ _ rest => rest

/-- SEQ stands before a frame: its next step is one that needs a result of the transport (40_bus_primitives.md R144). -/
def StandsBeforeFrame (s : State) : Prop := s.live = true ∧ (seqBody s).any Stmt.usesTransport = true

/-- Agent `a` has a step (46_mode_mux.md R332). SEQ's is held back where the transport returns no result (R144; log 5), a
host's where the port is held (30_encoding.md R112). A turn of an agent without a step is empty (log 2). -/
def HasStep (s : State) : Agent → Prop
  | .seq => s.live = true ∧ ¬ (StandsBeforeFrame s ∧ s.env.tpSilent = true)
  | .host h =>
    s.stopped = false ∧ ∃ r, s.hosts[h]? = some r ∧
      match r.st with
      | .free => ∃ a rest, r.prog = a :: rest ∧ ∀ w, a = .request w → s.issueHeld (decodeRequest w) = false
      | .waitReady _ => True
      | .pending _ | .waitDone => False

/-- Agent `a` takes a step at `s`: the turn is its own and it has one. -/
def TakesStep (s : State) (a : Agent) : Prop := s.nextTurn = .agent a ∧ HasStep s a

/-- In the step from `s` to `t`, agent `a` sampled BUSY and read `b`. -/
def Samples (a : Agent) (b : Bool) (s t : State) : Prop :=
  s.nextTurn = .agent a ∧ ∃ l, t.trace = s.trace ++ .busy b :: l

/-! Premises of claims that the block itself does not ensure: the three of 46_mode_mux.md R337, and the model's own. -/

/-- `PanelEventuallyReady` (R337): from any point after which no block reset ends the polls, an agent that samples BUSY
again and again at last reads 0. -/
def PanelEventuallyReady (r : Nat → State) : Prop :=
  ∀ a n, (∀ k, n ≤ k → NoReset (r k)) → (∀ k, n ≤ k → ∃ m b, k ≤ m ∧ Samples a b (r m) (r (m + 1))) →
    ∃ m, n ≤ m ∧ Samples a false (r m) (r (m + 1))

/-- `TransportAnswers` (R337): every frame returns a result. The transport may be silent for a while, and for ever where no
frame waits; a frame SEQ stands before does get its result, which then waits for SEQ's turn. -/
def TransportAnswers (r : Nat → State) : Prop :=
  ∀ n, ∃ m, n ≤ m ∧ (¬ StandsBeforeFrame (r m) ∨ ∀ k, m ≤ k → (r k).env.tpSilent = false)

/-- `SeqScheduled` (R337): in `COOP` mode SEQ is weakly fair among the agents. If from some point on SEQ has a step all the
time, it takes one. -/
def SeqScheduled (r : Nat → State) : Prop :=
  ∀ n, (∀ k, n ≤ k → (r k).mode = .coop ∧ HasStep (r k) .seq) → ∃ m, n ≤ m ∧ TakesStep (r m) .seq

/-- The model's own premise (log 2): while some agent has a step all the time, not every turn from then on is empty. The
manual's runs hold steps only, so there it always holds; in `SYNC` mode, where one agent at a time has steps
(46_mode_mux.md R333), it is all the scheduling a claim needs. -/
def TurnsNotAllEmpty (r : Nat → State) : Prop :=
  ∀ n, (∀ k, n ≤ k → ∃ a, HasStep (r k) a) → ∃ m a, n ≤ m ∧ TakesStep (r m) a

/-! The caller's timing obligations (70_reset_and_hazards.md R401): premises, not enforced by the block. The model has no
clock, so a claim that needs one takes the time `τ n` of each step `n` of a run, in milliseconds (log 22). -/

/-- Agent `a` takes a step from `s` to `t` that ends in `Delay(ms)`. -/
def EndsInDelay (a : Agent) (ms : Nat) (s t : State) : Prop :=
  TakesStep s a ∧ ∃ l, t.trace = s.trace ++ l ++ [.delay ms]

/-- `τ` can be the times of the steps of the run `r`: they do not fall, and where a step of an agent ends in `Delay(ms)`, at
least `ms` milliseconds pass before that agent's next step, however many agents delay at once (40_bus_primitives.md R148).
No time between two steps is bounded from above. A block reset ends the delays of the run before it. -/
structure Timing (r : Nat → State) (τ : Nat → Nat) : Prop where
  ordered : ∀ n, τ n ≤ τ (n + 1)
  delayed : ∀ a ms n m, EndsInDelay a ms (r n) (r (n + 1)) → n < m → TakesStep (r m) a →
    (∀ k, n < k → k < m → NoReset (r k)) → τ n + ms ≤ τ m

/-- The step from `s` to `t` appended an event that `p` holds of. -/
def Appends (p : Event → Bool) (s t : State) : Prop := ∃ l e, t.trace = s.trace ++ l ∧ e ∈ l ∧ p e = true

/-- The command frame of `DEEP_SLEEP` under the opcodes `o` (45_power.md R314), whatever its result. -/
def isDeepSleep (o : Opcodes) : Event → Bool
  | .frame .command [b] _ => b == o.deepSleep
  | .frame _ _ _ | .rst _ | .delay _ | .busy _ | .yield | .resp _ _ | .done | .fault _ => false

/-- The minimum refresh interval (R401): at least `T_MIN_REFRESH_INTERVAL` passes between two steps that append an
activation event. It is the time of the steps, not the sum of the delays in the trace, since the delays of SEQ and of waiting
hosts overlap and time passes without a delay too. -/
def ActivationsSpaced (r : Nat → State) (τ : Nat → Nat) : Prop :=
  ∀ n m, n < m → Appends isActivation (r n) (r (n + 1)) → Appends isActivation (r m) (r (m + 1)) →
    τ n + Config.tMinRefreshInterval ≤ τ m

/-- The active-state time (R401), with the bound a claim names, since the source gives none: no step comes more than `bound`
milliseconds after an activation with no `DEEP_SLEEP` command between them. -/
def ActiveTimeBounded (bound : Nat) (r : Nat → State) (τ : Nat → Nat) : Prop :=
  ∀ n m, n < m → Appends isActivation (r n) (r (n + 1)) →
    (∀ k, n < k → k < m → ¬ Appends (isDeepSleep (r k).cfg.ops) (r k) (r (k + 1))) → τ m ≤ τ n + bound

end Sys2Proof.Safety
end

