-- ==== Sys2Proof/Certificates/Slice0/Obligations.lean ====
section
/-! DEFINITION. The statements for the provers. -/

open Sys2Proof Sys2Proof.Machine Sys2Proof.Safety

/-! Encoding. -/

/-- Words written out from the tables of 30_encoding.md sections 2 and 3 decode to what they stand for; the panel
opcodes but for 0x22 and 0x20 are the presumed defaults (log 7). -/
def Obligations.SpecWordsDecode : Prop :=
  decodeRequest 0x0 = .reserved0 ∧ decodeRequest 0x1 = .init ∧ decodeRequest 0x2 = .refresh ∧
  decodeRequest 0x3 = .powerOn ∧ decodeRequest 0x4 = .sleep ∧ decodeRequest 0x5 = .waitReady ∧
  decodeRequest 0x6 = .waitDone ∧ decodeRequest 0x7 = .reserved7 ∧ decodeRequest 0x8 = .reserved8 0x8 ∧
  decodeRequest 0xF = .reserved8 0xF ∧
  decode Opcodes.default (.frame ⟨.command, [0x22]⟩) = .ok .displayUpdateControl2 ∧
  decode Opcodes.default (.frame ⟨.command, [0x20]⟩) = .ok .masterActivation ∧
  decode Opcodes.default (.frame ⟨.command, [0x24]⟩) = .ok .writeRamBw ∧
  decode Opcodes.default (.frame ⟨.command, [0x32]⟩) = .ok .writeLut ∧
  decode Opcodes.default (.frame ⟨.command, [0x10]⟩) = .ok .deepSleep

/-- Under any pairwise distinct opcodes (R105), every well-formed instruction is what its own code decodes to. -/
def Obligations.DecodeOfEncode : Prop :=
  ∀ (o : Opcodes) (i : Instr), o.Distinct → i.wf = true → decode o (encode o i) = .ok i

/-- Whatever decodes is well formed and encodes back to the same code: no word and no opcode has two readings. -/
def Obligations.EncodeOfDecode : Prop :=
  ∀ (o : Opcodes) (c : Code) (i : Instr), decode o c = .ok i → i.wf = true ∧ encode o i = c

/-- What the block never emits as a command is rejected, each kind under its own name (R100, R106, R107). -/
def Obligations.NonCommandsRejectedByName : Prop :=
  ∀ o : Opcodes,
    (∀ b, b ∉ o.all → decode o (.frame ⟨.command, [b]⟩) = .error .notEmitted) ∧
    (∀ l, decode o (.frame ⟨.data, l⟩) = .error .dataFrame) ∧
    (∀ l : List Byte, l.length ≠ 1 → decode o (.frame ⟨.command, l⟩) = .error .malformedFrame)

/-- A trace of frames is read back as its commands by the `dc` level alone, whatever the opcodes and the number of data
frames (R106). -/
def Obligations.FramesReadBackAsCommands : Prop :=
  ∀ cs : List Command, readFrames (cs.flatMap Command.frames) = some ([], cs)

/-- Response codes 0 to 3, each read back; 4 to 7 name no response (section 5 of 30_encoding.md). -/
def Obligations.ResponseCodes : Prop :=
  Response.ok.encode = 0 ∧ Response.busy.encode = 1 ∧ Response.transportError.encode = 2 ∧
  Response.illegal.encode = 3 ∧ (∀ r : Response, Response.decode r.encode = some r) ∧
  (∀ w : RespWord, Response.decode w = none ↔ 4 ≤ w.toNat)

/-! Reset. -/

/-- R51: a block reset leaves every field at its reset value, with `S.mode` the strap's level; so does `State.reset`. -/
def Obligations.BlockResetValues : Prop :=
  (∀ (s : State) (l : Launch), s.nextTurn = .blockReset l →
    ∃ t, step s = .next t ∧ AfterReset s.env.modeSel t) ∧
  AfterReset State.reset.env.modeSel State.reset

/-- The invariant holds right after reset, with the launch arguments of log 9. -/
def Obligations.ResetHasInvariant : Prop := Invariant State.reset

/-! Rules of the whole machine. -/

/-- Every step of a state that has the invariant, whichever agent's or environment's turn it is and whatever the draws,
leads to a state that has it. -/
def Obligations.StepKeepsInvariant : Prop := ∀ s t : State, Invariant s → step s = .next t → Invariant t

/-- R336: a change of the strap changes nothing but the strap's level, and no step but a block reset changes `S.mode`. -/
def Obligations.ModeFixedUntilReset : Prop :=
  (∀ (s : State) (m : Mode), s.nextTurn = .strap m →
    step s = .next { s.takeTurn with env := { s.takeTurn.env with modeSel := m } }) ∧
  (∀ s t : State, step s = .next t → NoReset s → t.mode = s.mode)

/-- The parameters never change, not by a block reset either (log 11), and the number of host agents only at a block reset (00_scope.md R5, 20_memory.md R85,
10_state.md R45). -/
def Obligations.ParametersAndHostCountFixed : Prop :=
  ∀ s t : State, step s = .next t → t.cfg = s.cfg ∧ (NoReset s → t.hosts.length = s.hosts.length)

/-- In a stopped block no agent has a step and no instruction does anything, which the model answers with the fault
`stopped` (log 3); the state is no end of a run; the fault bits stay until a block reset, which clears them
(60_exceptions.md section 1). -/
def Obligations.StoppedBlockIsFinal : Prop :=
  ∀ s : State, s.stopped = true →
    Quiescent s ∧ (∀ a, s.nextTurn = .agent a → step s = .fault .stopped) ∧
    (∀ i, exec i s = .fault .stopped) ∧ ¬ EndOfRun s ∧
    (∀ t, step s = .next t → NoReset s → t.faultTp = s.faultTp ∧ t.faultBc = s.faultBc) ∧
    (∀ l, s.nextTurn = .blockReset l → ∃ t, step s = .next t ∧ t.stopped = false)

/-- Only a host agent's own write in range changes the framebuffer (20_memory.md R76). -/
def Obligations.FramebufferWrittenByHostsOnly : Prop :=
  ∀ s t : State, step s = .next t → NoReset s →
    t.fb = s.fb ∨
    ∃ h r a v rest, s.nextTurn = .agent (.host h) ∧ s.hosts[h]? = some r ∧ r.st = .free ∧
      r.prog = .write a v :: rest ∧ a < Config.fbSize ∧ t.fb = Memory.write s.fb a v

/-- No step but a block reset takes an event off the trace or changes one. -/
def Obligations.TraceOnlyGrows : Prop :=
  ∀ s t : State, step s = .next t → NoReset s → s.trace <+: t.trace

/-- Only INIT's entries 0 to 2 drive the RST output: the level changes, or is driven to what it is and so recorded in the
trace, in their steps alone (10_state.md R46, 40_bus_primitives.md R146). -/
def Obligations.RstDrivenByInitOnly : Prop :=
  ∀ s t : State, Invariant s → step s = .next t → NoReset s →
    (t.rst ≠ s.rst ∨ ∃ v, Event.rst v ∈ t.trace.drop s.trace.length) →
    s.nextTurn = .agent .seq ∧ ∃ h pc, s.seq = .run .init h pc ∧ pc < 3

/-- The logical busy flag rises only in the issue step of an accepted `COOP` REFRESH and falls only in the completion
step of the background refresh, whose sample read 0 (10_state.md R38). -/
def Obligations.BusyFlagLifecycle : Prop :=
  ∀ s t : State, Invariant s → step s = .next t → NoReset s →
    (s.lbusy = false → t.lbusy = true →
      s.mode = .coop ∧ ∃ h r rest, s.nextTurn = .agent (.host h) ∧ s.hosts[h]? = some r ∧
        r.prog = .request 0x2 :: rest ∧ t.seq = .run .refreshCoop h 0) ∧
    (s.lbusy = true → t.lbusy = false →
      s.nextTurn = .agent .seq ∧ s.takeTurn.busyInput = false ∧ ∃ h, s.seq = .run .refreshCoop h 3)

/-- After every step from a state with the invariant, SEQ is active exactly when the port is held or the flag is set,
never both (section 5 of 30_encoding.md). -/
def Obligations.SeqActiveIffHeldOrFlag : Prop :=
  ∀ s t : State, Invariant s → step s = .next t →
    (t.seq ≠ .idle ↔ (∃ h, t.port = .held h) ∨ t.lbusy = true) ∧ ¬ ((∃ h, t.port = .held h) ∧ t.lbusy = true)

/-- A host agent's step leaves every other host agent, the RST level, the signal, the parameters, the mode, and the
transport fault bit as they were (frames of the host steps of 10_state.md R45). -/
def Obligations.HostStepLeavesOthers : Prop :=
  ∀ (s t : State) (h : Nat), s.nextTurn = .agent (.host h) → step s = .next t →
    (∀ g, g ≠ h → t.hosts[g]? = s.hosts[g]?) ∧ t.rst = s.rst ∧ t.signal = s.signal ∧ t.cfg = s.cfg ∧
    t.mode = s.mode ∧ t.faultTp = s.faultTp ∧ frames t.trace = frames s.trace

/-- From a state with the invariant, a step of SEQ leaves the framebuffer, the mode, the parameters, the issuing agent, the bus-conflict bit and every
host's program and what it read as they were. -/
def Obligations.SeqStepFrame : Prop :=
  ∀ s t : State, Invariant s → s.nextTurn = .agent .seq → step s = .next t →
    t.fb = s.fb ∧ (∀ a, Memory.read t.fb a = Memory.read s.fb a) ∧ t.mode = s.mode ∧ t.cfg = s.cfg ∧
    t.issuer = s.issuer ∧ t.faultBc = s.faultBc ∧
    t.hosts.map (fun r => (r.prog, r.status, r.data)) = s.hosts.map (fun r => (r.prog, r.status, r.data))

/-! Host requests. -/

/-- INIT is accepted: it takes the port and starts at entry 0 (issue step of 30_encoding.md section 5). -/
def Obligations.InitStarts : Prop :=
  ∀ s : State, s.stopped = false → s.st? s.issuer = some .free → s.port = .free →
    ¬ (s.mode = .coop ∧ s.lbusy = true) →
    exec .init s = .next { s with
      port := .held s.issuer
      hosts := s.hosts.modify s.issuer (fun r => { r with st := .pending .init })
      seq := .run .init s.issuer 0 }

/-- REFRESH in `SYNC` mode is accepted: it takes the port and starts `REFRESH_SYNC` with `S.row = 0`; a panel that is
not configured becomes unknown (44_refresh.md section 1). -/
def Obligations.RefreshSyncStarts : Prop :=
  ∀ s : State, s.stopped = false → s.st? s.issuer = some .free → s.port = .free → s.mode = .sync →
    exec .refresh s = .next { s with
      port := .held s.issuer
      hosts := s.hosts.modify s.issuer (fun r => { r with st := .pending .refresh })
      seq := .run .refreshSync s.issuer 0
      row := 0
      panel := if s.panel = .configured then .configured else .undefined }

/-- R275: REFRESH in `COOP` mode is answered `BUSY`, with nothing else changed, while a refresh is in flight; else it
sets the flag and `S.row`, starts `REFRESH_COOP` and is answered `OK` at once, the port never taken. -/
def Obligations.RefreshCoopRule : Prop :=
  ∀ s : State, s.stopped = false → s.st? s.issuer = some .free → s.port = .free → s.mode = .coop →
    (s.lbusy = true →
      exec .refresh s = .next { s with trace := s.trace ++ [.resp s.issuer .busy] }) ∧
    (s.lbusy = false →
      exec .refresh s = .next { s with
        lbusy := true
        row := 0
        seq := .run .refreshCoop s.issuer 0
        panel := if s.panel = .configured then .configured else .undefined
        trace := s.trace ++ [.resp s.issuer .ok] })

/-- POWER_ON and SLEEP are accepted: each takes the port and starts at entry 0; POWER_ON's bookkeeping is REFRESH's
(R312), SLEEP's comes at its end. -/
def Obligations.PowerOnAndSleepStart : Prop :=
  ∀ s : State, s.stopped = false → s.st? s.issuer = some .free → s.port = .free →
    ¬ (s.mode = .coop ∧ s.lbusy = true) →
    exec .powerOn s = .next { s with
      port := .held s.issuer
      hosts := s.hosts.modify s.issuer (fun r => { r with st := .pending .powerOn })
      seq := .run .powerOn s.issuer 0
      panel := if s.panel = .configured then .configured else .undefined } ∧
    exec .sleep s = .next { s with
      port := .held s.issuer
      hosts := s.hosts.modify s.issuer (fun r => { r with st := .pending .sleep })
      seq := .run .sleep s.issuer 0 }

/-- R356: INIT, POWER_ON or SLEEP issued in `COOP` mode with the port free and the flag set raises
`Fault(BUS_CONFLICT)`: the bit and the event, no frame, and the block stops. -/
def Obligations.BusConflictStopsBlock : Prop :=
  ∀ (s : State) (i : Instr), i ∈ [Instr.init, .powerOn, .sleep] → s.stopped = false →
    s.st? s.issuer = some .free → s.mode = .coop → s.port = .free → s.lbusy = true →
    exec i s = .next { s with faultBc := true, trace := s.trace ++ [.fault .busConflict] } ∧
    ({ s with faultBc := true, trace := s.trace ++ [.fault .busConflict] } : State).stopped = true

/-- While the port is held a port-using issue has no step: the agent stays `Free` with its request unissued, and only the
turn goes by (log 2); the response to the holder frees the port; an agent that waits for its response has no step
(section 5 of 30_encoding.md). -/
def Obligations.HeldPortHoldsIssue : Prop :=
  (∀ (s : State) (h g : Nat) (r : HostAgent) (w : ReqWord) (rest : List HostAction), s.stopped = false →
    s.nextTurn = .agent (.host h) → s.hosts[h]? = some r → r.st = .free → r.prog = .request w :: rest →
    w ∈ [0x1, 0x2, 0x3, 0x4] → s.port = .held g → step s = .next s.takeTurn) ∧
  (∀ (s : State) (i : Instr) (g : Nat), i ∈ [Instr.init, .refresh, .powerOn, .sleep] → s.stopped = false →
    s.port = .held g → exec i s = .next s) ∧
  (∀ (s : State) (g : Nat) (c : Response), s.port = .held g → (s.respond g c).port = .free) ∧
  (∀ (s : State) (h : Nat) (i : Instr), s.stopped = false → s.nextTurn = .agent (.host h) →
    s.st? h = some (.pending i) → step s = .next s.takeTurn)

/-- WAIT_READY starts to wait, whoever holds the port and whatever the flag; it owes a yield in `COOP` mode only
(43_busy_monitor.md section 3). -/
def Obligations.WaitReadyStarts : Prop :=
  ∀ s : State, s.stopped = false → s.st? s.issuer = some .free →
    exec .waitReady s = .next { s with
      hosts := s.hosts.modify s.issuer (fun r => { r with st := .waitReady (decide (s.mode = .coop)) }) }

/-- WAIT_DONE joins the waiters in `COOP` mode, whoever holds the port and whatever the flag, and is answered `ILLEGAL`
in `SYNC` mode (43_busy_monitor.md section 4). -/
def Obligations.WaitDoneRule : Prop :=
  ∀ s : State, s.stopped = false → s.st? s.issuer = some .free →
    (s.mode = .coop → ∃ t, exec .waitDone s = .next t ∧
      (∀ h, h ∈ t.waiters ↔ h = s.issuer ∨ h ∈ s.waiters) ∧
      t = { s with
        waiters := t.waiters
        hosts := s.hosts.modify s.issuer (fun r => { r with st := .waitDone }) }) ∧
    (s.mode = .sync → exec .waitDone s = .next { s with
      trace := s.trace ++ [.resp s.issuer .illegal]
      port := if s.port = .held s.issuer then .free else s.port })

/-- R352: a reserved code, even while the port is held or a refresh is in flight, and WAIT_DONE in `SYNC` mode are
answered `ILLEGAL`, and nothing else happens. -/
def Obligations.IllegalRequestAnswered : Prop :=
  ∀ (s : State) (i : Instr) (code : ReqWord),
    i ∈ [Instr.reserved0, .reserved7, .reserved8 code] ∨ (i = .waitDone ∧ s.mode = .sync) →
    s.stopped = false → s.st? s.issuer = some .free →
    exec i s = .next { s with
      trace := s.trace ++ [.resp s.issuer .illegal]
      port := if s.port = .held s.issuer then .free else s.port }

/-- What no request's issue step changes: the framebuffer, the RST level, the signal, the mode, the parameters, the
transport fault bit, the environment, every other host agent, and its own agent's program; it sends no frame. Only
REFRESH writes `S.row` and the flag, only REFRESH and POWER_ON the panel bookkeeping, only WAIT_DONE the waiters, only
the port-using requests SEQ, only INIT, POWER_ON and SLEEP the bus-conflict bit. -/
def Obligations.RequestFrame : Prop :=
  ∀ (i : Instr) (s t : State), i.isRequest = true → exec i s = .next t →
    (∀ a, Memory.read t.fb a = Memory.read s.fb a) ∧ t.rst = s.rst ∧ t.signal = s.signal ∧ t.mode = s.mode ∧
    t.cfg = s.cfg ∧ t.faultTp = s.faultTp ∧ t.env = s.env ∧ t.issuer = s.issuer ∧
    (∀ g, g ≠ s.issuer → t.hosts[g]? = s.hosts[g]?) ∧
    t.hosts.map (fun r => (r.prog, r.status, r.data)) = s.hosts.map (fun r => (r.prog, r.status, r.data)) ∧
    frames t.trace = frames s.trace ∧
    (i ≠ .refresh → t.row = s.row ∧ t.lbusy = s.lbusy) ∧
    (i ≠ .refresh → i ≠ .powerOn → t.panel = s.panel) ∧
    (i ≠ .waitDone → t.waiters = s.waiters) ∧
    (i ∉ [Instr.init, .refresh, .powerOn, .sleep] → t.seq = s.seq) ∧
    (i ∉ [Instr.init, .powerOn, .sleep] → t.faultBc = s.faultBc)

/-! Panel commands. -/

/-- The commands of INIT's entries 4 and 6 send their opcode and their parameter bytes and nothing else happens: one
command frame, and one data frame where there are parameters. Update control is 0xB1 in INIT (section 3 of 30_encoding.md,
41_reset_init.md R183). -/
def Obligations.InitCommandsSend : Prop :=
  ∀ (s : State) (h pc : Nat) (i : Instr) (op : Byte) (l : List Byte),
    (i, op, l) ∈ initCommandBytes s.cfg →
    s.stopped = false → s.seq = .run .init h pc → s.env.tpSilent = false → FramesSucceed (cmdTrace op l).length s →
    exec i s = .next { s with
      env := Env.takeOk^[(cmdTrace op l).length] s.env
      trace := s.trace ++ cmdTrace op l }

/-- The commands of the Waveform Loader send the LUT as one data frame, and the four registers' bytes (42_waveform.md
R220 to R222). -/
def Obligations.WaveformCommandsSend : Prop :=
  ∀ (s : State) (h pc : Nat) (i : Instr) (op : Byte) (l : List Byte),
    (i, op, l) ∈ waveformCommandBytes s.cfg →
    s.stopped = false → s.seq = .run .init h pc → s.env.tpSilent = false → FramesSucceed (cmdTrace op l).length s →
    exec i s = .next { s with
      env := Env.takeOk^[(cmdTrace op l).length] s.env
      trace := s.trace ++ cmdTrace op l }

/-- The commands of REFRESH, POWER_ON and SLEEP send their opcode and parameters; update control is 0xC7 outside INIT
(44_refresh.md R273, 45_power.md R314). -/
def Obligations.RefreshAndPowerCommandsSend : Prop :=
  ∀ (s : State) (q : Operation) (h pc : Nat) (i : Instr) (op : Byte) (l : List Byte),
    (i, op, l) ∈ refreshPowerCommandBytes s.cfg →
    s.stopped = false → s.seq = .run q h pc → q ≠ .init → s.env.tpSilent = false → FramesSucceed (cmdTrace op l).length s →
    exec i s = .next { s with
      env := Env.takeOk^[(cmdTrace op l).length] s.env
      trace := s.trace ++ cmdTrace op l }

/-- A panel command whose command frame fails, in an operation that holds the port: no data frame is sent, SEQ is idle,
the requester is answered `TRANSPORT_ERROR` and freed, the port is free, the panel unknown; `S.row` and RST stand
(60_exceptions.md section 1). -/
def Obligations.FailedFrameAbortsOperation : Prop :=
  ∀ (s : State) (i : Instr) (op : Byte) (q : Operation) (h pc : Nat),
    encode s.cfg.ops i = .frame ⟨.command, [op]⟩ → s.stopped = false → s.seq = .run q h pc → q ≠ .refreshCoop →
    s.port = .held h → s.env.tpSilent = false → s.tpResult = false →
    exec i s = .next { s with
      env := s.env.takeOk
      trace := s.trace ++ [.frame .command [op] false, .resp h .transportError]
      panel := .undefined
      seq := .idle
      hosts := s.hosts.modify h (fun r => { r with st := .free })
      port := .free }

/-- The same where the command frame is sent and the data frame fails: the frames before the failed one stand in the
trace with success, and none follows it (60_exceptions.md section 1). -/
def Obligations.FailedDataFrameAborts : Prop :=
  ∀ (s : State) (i : Instr) (op : Byte) (l : List Byte) (q : Operation) (h pc : Nat),
    (i, op, l) ∈ commandBytes s.cfg q → l ≠ [] → s.stopped = false → s.seq = .run q h pc → q ≠ .refreshCoop →
    s.port = .held h → s.env.tpSilent = false → s.tpResult = true → (s.setEnv s.env.takeOk).tpResult = false →
    exec i s = .next { s with
      env := s.env.takeOk.takeOk
      trace := s.trace ++ [.frame .command [op] true, .frame .data l false, .resp h .transportError]
      panel := .undefined
      seq := .idle
      hosts := s.hosts.modify h (fun r => { r with st := .free })
      port := .free }

/-- R354: a frame of `REFRESH_COOP` that fails, a command's, a parameter's or a row's, raises `Fault(TRANSPORT)` in the
failing step: the bit and the event, the last of the step; the block is stopped, the flag stays, SEQ is not advanced, no
waiter is released. A failed command frame does this and nothing else. -/
def Obligations.BackgroundFailureStopsBlock : Prop :=
  (∀ (s : State) (i : Instr) (op : Byte) (h pc : Nat),
    encode s.cfg.ops i = .frame ⟨.command, [op]⟩ → s.stopped = false → s.seq = .run .refreshCoop h pc →
    s.env.tpSilent = false → s.tpResult = false →
    exec i s = .next { s with
      env := s.env.takeOk
      trace := s.trace ++ [.frame .command [op] false, .fault .transport]
      panel := .undefined
      faultTp := true }) ∧
  (∀ (s t : State) (h pc : Nat), s.nextTurn = .agent .seq → s.seq = .run .refreshCoop h pc → step s = .next t →
    (∃ dc l, Event.frame dc l false ∈ t.trace.drop s.trace.length) →
    t.faultTp = true ∧ t.stopped = true ∧ t.lbusy = s.lbusy ∧ t.seq = s.seq ∧ t.waiters = s.waiters ∧
    t.hosts = s.hosts ∧ t.panel = .undefined ∧
    ∃ pre dc l, t.trace = s.trace ++ pre ++ [.frame dc l false, .fault .transport] ∧
      ∀ dc' l' ok, Event.frame dc' l' ok ∈ pre → ok = true)

/-- What no panel command changes: the framebuffer, `S.row`, the flag, the signal, the waiters, the mode, the RST level,
the bus-conflict bit, the parameters, the issuing agent, and every host agent but the requester. -/
def Obligations.PanelCommandFrame : Prop :=
  ∀ (i : Instr) (s t : State), i.isRequest = false → exec i s = .next t →
    (∀ a, Memory.read t.fb a = Memory.read s.fb a) ∧ t.row = s.row ∧ t.lbusy = s.lbusy ∧ t.signal = s.signal ∧
    t.waiters = s.waiters ∧ t.mode = s.mode ∧ t.rst = s.rst ∧ t.faultBc = s.faultBc ∧ t.cfg = s.cfg ∧
    t.issuer = s.issuer ∧
    (∀ g, (∀ op pc, s.seq ≠ .run op g pc) → (∀ op pc rest, s.seq ≠ .segment op g pc rest) →
      t.hosts[g]? = s.hosts[g]?) ∧
    (t.panel = s.panel ∨ t.panel = .undefined)

/-- A panel command does nothing while SEQ is idle (46_mode_mux.md R332) or the transport returns no result
(40_bus_primitives.md R144): the model's reading of `no step` (log 5, log 18). -/
def Obligations.PanelCommandWithoutStep : Prop :=
  ∀ (i : Instr) (s : State), i.isRequest = false → s.stopped = false → (s.seq = .idle ∨ s.env.tpSilent = true) →
    exec i s = .next s

/-- A data frame of no bytes is refused (40_bus_primitives.md R142); a framebuffer read is defined exactly in range and
gives `n` bytes in increasing offset (20_memory.md R72); a host's write or read out of range is refused (R76). That
`refused` is the outcome in which the machine stops is the model's reading of R72, R76 and R142 (log 21, DEDUCED). -/
def Obligations.RefusedAccesses : Prop :=
  (∀ s : State, s.sendData [] = .refused .emptyDataFrame) ∧
  (∀ (s : State) (a n : Nat), a + n ≤ 5000 →
    s.memRead a n = some ((List.range n).map fun i => Memory.read s.fb (a + i))) ∧
  (∀ (s : State) (a n : Nat), 5000 < a + n → s.memRead a n = none) ∧
  (∀ (s : State) (h a : Nat) (v : Byte) (r : HostAgent) (rest : List HostAction), s.stopped = false →
    s.nextTurn = .agent (.host h) → s.hosts[h]? = some r → r.st = .free → r.prog = .write a v :: rest → 5000 ≤ a →
    step s = .refused .framebufferRange) ∧
  (∀ (s : State) (h a n : Nat) (r : HostAgent) (rest : List HostAction), s.stopped = false →
    s.nextTurn = .agent (.host h) → s.hosts[h]? = some r → r.st = .free → r.prog = .read a n :: rest → 5000 < a + n →
    step s = .refused .framebufferRange)

/-! The sequencer. -/

/-- R243, POLL_PIN at each entry that is one: a sample of 1 adds `BUSY 1; DELAY 100` and
leaves `pc`; a sample of 0 adds `BUSY 0` and moves to the next entry. -/
def Obligations.PollPinRule : Prop :=
  ∀ (s : State) (op : Operation) (h pc : Nat),
    (op, pc) ∈ [(Operation.init, 3), (.init, 5), (.init, 7), (.refreshSync, 0), (.refreshSync, 4), (.powerOn, 1)] →
    s.stopped = false → s.nextTurn = .agent .seq → s.seq = .run op h pc →
    (s.takeTurn.busyInput = true → step s = .next { s with
      env := s.env.takeTurn.takeBusy, trace := s.trace ++ [.busy true, .delay 100] }) ∧
    (s.takeTurn.busyInput = false → step s = .next { s with
      env := s.env.takeTurn.takeBusy, trace := s.trace ++ [.busy false], seq := .run op h (pc + 1) })

/-- A poll whose samples are `k` ones and then a zero takes `k + 1` SEQ steps and adds `k` times `BUSY 1; DELAY 100`,
then `BUSY 0`; there is no bound on `k` (43_busy_monitor.md sections 2 and 3). -/
def Obligations.PollRepeatsUntilReady : Prop :=
  ∀ (s : State) (op : Operation) (h pc k : Nat) (ts : List Turn) (bs : List Bool),
    (op, pc) ∈ [(Operation.init, 3), (.init, 5), (.init, 7), (.refreshSync, 0), (.refreshSync, 4), (.powerOn, 1)] →
    s.stopped = false → s.seq = .run op h pc → s.env.turns = List.replicate (k + 1) (.agent .seq) ++ ts →
    s.env.busy = List.replicate k true ++ false :: bs →
    runFor (k + 1) s = .next { s with
      env := { s.env with turns := ts, busy := bs }
      trace := s.trace ++ busyTrace k ++ [.busy false]
      seq := .run op h (pc + 1) }

/-- The whole INIT, the draws given (log 4): with every frame answered with success and every poll's first sample 0, ten SEQ steps give the trace
of 41_reset_init.md R187, byte for byte, whatever the opcodes and the LUT; the panel is configured, the requester is
answered and free, the port is free, RST is high. -/
def Obligations.InitRunTrace : Prop :=
  ∀ (s : State) (h : Nat) (ts : List Turn) (bs os : List Bool),
    s.cfg.lut ≠ [] → s.stopped = false → s.seq = .run .init h 0 → s.port = .held h → s.env.tpSilent = false →
    s.env.turns = List.replicate 10 (.agent .seq) ++ ts → s.env.busy = [false, false, false] ++ bs →
    s.env.ok = List.replicate 30 true ++ os →
    runFor 10 s = .next { s with
      env := { s.env with turns := ts, busy := bs, ok := os }
      trace := s.trace ++ initTrace s.cfg h
      panel := .configured
      rst := true
      seq := .idle
      hosts := s.hosts.modify h (fun r => { r with st := .free })
      port := .free }

/-- The whole `SYNC` REFRESH (44_refresh.md R281): with every frame answered with success, BUSY 0 at entry 0 and `k` ones
before the zero at entry 4, the trace is the write-RAM command, 200 rows in order, each the complement of its
framebuffer bytes, ACTIVATE, the poll and the response. -/
def Obligations.RefreshSyncRunTrace : Prop :=
  ∀ (s : State) (h k : Nat) (ts : List Turn) (bs os : List Bool),
    s.stopped = false → s.seq = .run .refreshSync h 0 → s.row = 0 → s.port = .held h → s.env.tpSilent = false →
    s.env.turns = List.replicate (205 + k) (.agent .seq) ++ ts →
    s.env.busy = false :: (List.replicate k true ++ false :: bs) →
    s.env.ok = List.replicate 204 true ++ os →
    runFor (205 + k) s = .next { s with
      env := { s.env with turns := ts, busy := bs, ok := os }
      trace := s.trace ++ [.busy false] ++ cmdTrace s.cfg.ops.writeRamBw [] ++ rowsTrace s.fb [] ++ activateTrace ++
        busyTrace k ++ [.busy false, .resp h .ok]
      row := 200
      seq := .idle
      hosts := s.hosts.modify h (fun r => { r with st := .free })
      port := .free }

/-- The whole background refresh when only SEQ has turns (44_refresh.md R282): the write-RAM command and 200 rows with a
yield after each, ACTIVATE and a yield, the poll, a response `OK` to every waiter in some order, `Done`; the flag falls,
SEQ is idle, every waiter is free; no other agent and nothing else changes, but that the turns, the draws and the choices of
the answering order are taken (log 1, 4, 6). -/
def Obligations.RefreshCoopRunTrace : Prop :=
  ∀ (s : State) (h k : Nat) (ts : List Turn) (bs os : List Bool),
    s.stopped = false → s.seq = .run .refreshCoop h 0 → s.row = 0 → s.port = .free → s.env.tpSilent = false →
    s.env.turns = List.replicate (202 + k) (.agent .seq) ++ ts →
    s.env.busy = List.replicate k true ++ false :: bs → s.env.ok = List.replicate 204 true ++ os →
    ∃ (t : State) (ws : List Nat), runFor (202 + k) s = .next t ∧ ws.Perm s.waiters ∧
      (∀ g, t.hosts[g]? = if g ∈ s.waiters then (s.hosts[g]?).map (fun r => r.setSt .free) else s.hosts[g]?) ∧
      t = { s with
        env := Env.takeOrder { s.env with turns := ts, busy := bs, ok := os } s.waiters.length
        trace := s.trace ++ cmdTrace s.cfg.ops.writeRamBw [] ++ rowsTrace s.fb [.yield] ++ activateTrace ++ [.yield] ++
          busyTrace k ++ [.busy false] ++ ws.map (fun w => .resp w .ok) ++ [.done]
        hosts := t.hosts
        row := 200
        waiters := []
        signal := false
        lbusy := false
        seq := .idle }

/-- The whole POWER_ON (45_power.md R310): ACTIVATE, a poll of `k` ones and a zero, the response; the panel bookkeeping
stands. -/
def Obligations.PowerOnRunTrace : Prop :=
  ∀ (s : State) (h k : Nat) (ts : List Turn) (bs os : List Bool),
    s.stopped = false → s.seq = .run .powerOn h 0 → s.port = .held h → s.env.tpSilent = false →
    s.env.turns = List.replicate (k + 3) (.agent .seq) ++ ts →
    s.env.busy = List.replicate k true ++ false :: bs → s.env.ok = [true, true, true] ++ os →
    runFor (k + 3) s = .next { s with
      env := { s.env with turns := ts, busy := bs, ok := os }
      trace := s.trace ++ activateTrace ++ busyTrace k ++ [.busy false, .resp h .ok]
      seq := .idle
      hosts := s.hosts.modify h (fun r => { r with st := .free })
      port := .free }

/-- The whole SLEEP (45_power.md R314, R315): exactly the deep-sleep command and its byte 0x01, then the response; a
configured panel is asleep, any other unknown. -/
def Obligations.SleepRunTrace : Prop :=
  ∀ (s : State) (h : Nat) (ts : List Turn) (os : List Bool),
    s.stopped = false → s.seq = .run .sleep h 0 → s.port = .held h → s.env.tpSilent = false →
    s.env.turns = [.agent .seq, .agent .seq] ++ ts → s.env.ok = [true, true] ++ os →
    runFor 2 s = .next { s with
      env := { s.env with turns := ts, ok := os }
      trace := s.trace ++
        [.frame .command [s.cfg.ops.deepSleep] true, .frame .data [0x01] true, .resp h .ok]
      panel := if s.panel = .configured then .asleep else .undefined
      seq := .idle
      hosts := s.hosts.modify h (fun r => { r with st := .free })
      port := .free }

/-- A row step of either refresh whose frame succeeds sends the 25 complemented bytes of row `S.row` as one data frame
and counts the row; it goes on to the next entry exactly after the last row. Entry 0 of the background refresh sends the
write-RAM command first and goes on to entry 1 (44_refresh.md sections 1 and 2). -/
def Obligations.RowStepRule : Prop :=
  ∀ (s : State) (h : Nat), s.nextTurn = .agent .seq → s.stopped = false → s.row < 200 → s.env.tpSilent = false →
    s.takeTurn.tpResult = true →
    (s.seq = .run .refreshSync h 2 → step s = .next { s with
      env := s.env.takeTurn.takeOk
      trace := s.trace ++ [rowEvent s.fb s.row]
      row := s.row + 1
      seq := .run .refreshSync h (if s.row + 1 < 200 then 2 else 3) }) ∧
    (s.seq = .run .refreshCoop h 1 → step s = .next { s with
      env := s.env.takeTurn.takeOk
      trace := s.trace ++ [rowEvent s.fb s.row, .yield]
      row := s.row + 1
      seq := .run .refreshCoop h (if s.row + 1 < 200 then 1 else 2) }) ∧
    (s.seq = .run .refreshCoop h 0 → FramesSucceed 2 s.takeTurn → step s = .next { s with
      env := s.env.takeTurn.takeOk.takeOk
      trace := s.trace ++ [.frame .command [s.cfg.ops.writeRamBw] true, rowEvent s.fb s.row, .yield]
      row := s.row + 1
      seq := .run .refreshCoop h 1 })

/-- R353: a SEQ step of an operation that holds the port in which a frame fails ends with that frame and the response
`TRANSPORT_ERROR` to the requester: every frame before it in the step was sent with success and none follows; SEQ is idle,
the requester free, the port free, the panel unknown; `S.row` and RST keep their values. -/
def Obligations.FailedFrameEndsStep : Prop :=
  ∀ (s t : State) (op : Operation) (h pc : Nat), s.nextTurn = .agent .seq → s.seq = .run op h pc →
    op ≠ .refreshCoop → s.port = .held h → step s = .next t →
    (∃ dc l, Event.frame dc l false ∈ t.trace.drop s.trace.length) →
    t.seq = .idle ∧ t.port = .free ∧ t.panel = .undefined ∧ t.row = s.row ∧ t.rst = s.rst ∧ t.lbusy = s.lbusy ∧
    t.hosts = s.hosts.modify h (fun r => { r with st := .free }) ∧
    ∃ pre dc l, t.trace = s.trace ++ pre ++ [.frame dc l false, .resp h .transportError] ∧
      ∀ dc' l' ok, Event.frame dc' l' ok ∈ pre → ok = true

/-- The completion step of a background refresh: in the step whose sample reads 0, every waiter is answered `OK` and
freed, then `Done`; the waiters are empty, the signal is 0 again, the flag is cleared, SEQ is idle; no other agent and
nothing else changes (44_refresh.md R277), but that the turn, the sample and the choices of the answering order are taken
(log 1, 4, 6; the order of the responses is free). -/
def Obligations.CompletionStep : Prop :=
  ∀ (s : State) (h : Nat), s.nextTurn = .agent .seq → s.stopped = false → s.seq = .run .refreshCoop h 3 →
    s.port = .free → s.takeTurn.busyInput = false →
    ∃ (t : State) (ws : List Nat), step s = .next t ∧ ws.Perm s.waiters ∧
      (∀ g, t.hosts[g]? = if g ∈ s.waiters then (s.hosts[g]?).map (fun r => r.setSt .free) else s.hosts[g]?) ∧
      t = { s with
        env := s.env.takeTurn.takeBusy.takeOrder s.waiters.length
        trace := s.trace ++ [.busy false] ++ ws.map (fun w => .resp w .ok) ++ [.done]
        hosts := t.hosts
        waiters := []
        signal := false
        lbusy := false
        seq := .idle }

/-- R186: INIT's last entry leaves the panel configured, SEQ idle, and answers the requester `OK`. -/
def Obligations.InitCompletion : Prop :=
  ∀ (s : State) (h : Nat), s.nextTurn = .agent .seq → s.stopped = false → s.seq = .run .init h 9 →
    step s = .next { s with
      env := s.env.takeTurn
      panel := .configured
      seq := .idle
      hosts := s.hosts.modify h (fun r => { r with st := .free })
      port := if s.port = .held h then .free else s.port
      trace := s.trace ++ [.resp h .ok] }

/-- R315: SLEEP's completion step: a configured panel becomes asleep, any other unknown; and the rest of that entry. -/
def Obligations.SleepCompletion : Prop :=
  ∀ (s : State) (h : Nat), s.nextTurn = .agent .seq → s.stopped = false → s.seq = .run .sleep h 1 →
    step s = .next { s with
      env := s.env.takeTurn
      panel := if s.panel = .configured then .asleep else .undefined
      seq := .idle
      hosts := s.hosts.modify h (fun r => { r with st := .free })
      port := if s.port = .held h then .free else s.port
      trace := s.trace ++ [.resp h .ok] }

/-- The traces the run statements name hold the frames the spec counts: INIT 16 command and 14 data frames (R187), a
refresh 204 frames with 5001 data bytes (R280); an INIT takes at least 600 ms (R411), `k` busy samples `100·k`. -/
def Obligations.TraceCounts : Prop :=
  (∀ (p : Params) (h : Nat), p.wf →
    ((frames (initTrace p h)).countP (fun f => f.dc = .command)) = 16 ∧
    ((frames (initTrace p h)).countP (fun f => f.dc = .data)) = 14 ∧ elapsedMs (initTrace p h) = 600) ∧
  (∀ (p : Params) (fb : List Host.Cell) (after : List Event), frames after = [] →
    (frames (cmdTrace p.ops.writeRamBw [] ++ rowsTrace fb after ++ activateTrace)).length = 204 ∧
    ((frames (cmdTrace p.ops.writeRamBw [] ++ rowsTrace fb after ++ activateTrace)).map
      (fun f => if f.dc = .data then f.bytes.length else 0)).sum = 5001) ∧
  (∀ k, elapsedMs (busyTrace k) = 100 * k)

/-! Status, waits and the framebuffer. -/

/-- R240: READY is the negation of flag or sample, and is bit 0 of STATUS. -/
def Obligations.ReadyFormula : Prop :=
  ∀ (s : State) (b : Bool),
    s.ready b = (!(s.lbusy || b)) ∧ (s.statusWord b).getLsbD 0 = s.ready b

/-- The bits of the STATUS word (10_state.md section 3), and the word as a number in the situations S1, S4, S5 and S8 of
95_test_vectors.md section 2.4. -/
def Obligations.StatusWordBits : Prop :=
  (∀ (s : State) (b : Bool),
    (s.statusWord b).getLsbD 0 = (!(s.lbusy || b)) ∧ (s.statusWord b).getLsbD 1 = s.lbusy ∧
    (s.statusWord b).getLsbD 2 = b ∧ (s.statusWord b).getLsbD 3 = decide (s.mode = .coop) ∧
    (s.statusWord b).getLsbD 4 = decide (s.seq ≠ .idle) ∧ (s.statusWord b).getLsbD 5 = s.faultTp ∧
    (s.statusWord b).getLsbD 6 = s.faultBc ∧ (s.statusWord b).getLsbD 7 = false) ∧
  (∀ s : State, s.faultTp = false → s.faultBc = false →
    (s.mode = .sync → s.seq = .idle → s.lbusy = false → s.statusWord false = 0x01) ∧
    (s.mode = .coop → s.seq = .idle → s.lbusy = false → s.statusWord true = 0x0C) ∧
    (s.mode = .coop → s.seq ≠ .idle → s.lbusy = true → s.statusWord false = 0x1A) ∧
    (s.mode = .coop → s.seq ≠ .idle → s.lbusy = false → s.statusWord false = 0x19))

/-- R40: a STATUS read by a free host agent takes one BUSY sample, recorded in the trace, gives the agent the word
computed from that sample, and does nothing else. -/
def Obligations.StatusReadStep : Prop :=
  ∀ (s : State) (h : Nat) (r : HostAgent) (rest : List HostAction), s.stopped = false →
    s.nextTurn = .agent (.host h) → s.hosts[h]? = some r → r.st = .free → r.prog = .status :: rest →
    step s = .next { s with
      env := s.env.takeTurn.takeBusy
      trace := s.trace ++ [.busy s.takeTurn.busyInput]
      hosts := s.hosts.set h
        { r with prog := rest, status := some (s.takeTurn.statusWord s.takeTurn.busyInput) } }

/-- The steps of WAIT_READY (43_busy_monitor.md section 3): the first yield; a poll that finds READY answers `OK`; a poll
that does not, because of the flag or the sample, delays 100 ms and stays. -/
def Obligations.WaitReadySteps : Prop :=
  ∀ (s : State) (h : Nat) (r : HostAgent), s.stopped = false → s.nextTurn = .agent (.host h) →
    s.hosts[h]? = some r →
    (r.st = .waitReady true → step s = .next { s with
      env := s.env.takeTurn
      trace := s.trace ++ [.yield]
      hosts := s.hosts.set h { r with st := .waitReady false } }) ∧
    (r.st = .waitReady false → s.lbusy = false → s.takeTurn.busyInput = false → step s = .next { s with
      env := s.env.takeTurn.takeBusy
      trace := s.trace ++ [.busy false, .resp h .ok]
      hosts := s.hosts.set h { r with st := .free }
      port := if s.port = .held h then .free else s.port }) ∧
    (r.st = .waitReady false → (s.lbusy = true ∨ s.takeTurn.busyInput = true) → step s = .next { s with
      env := s.env.takeTurn.takeBusy
      trace := s.trace ++ [.busy s.takeTurn.busyInput, .delay 100] })

/-- A host's framebuffer write in range stores its byte and changes no other byte and nothing else but the line of the
program; a read in range gives the bytes of the framebuffer (20_memory.md sections 1 and 2). -/
def Obligations.HostFramebufferAccess : Prop :=
  (∀ (s : State) (h a : Nat) (v : Byte) (r : HostAgent) (rest : List HostAction), s.stopped = false →
    Memory.wf s.fb → s.nextTurn = .agent (.host h) → s.hosts[h]? = some r → r.st = .free →
    r.prog = .write a v :: rest → a < 5000 →
    ∃ t, step s = .next t ∧ (∀ b, Memory.read t.fb b = if b = a then v else Memory.read s.fb b) ∧
      t = { s with fb := t.fb, env := s.env.takeTurn, hosts := s.hosts.set h { r with prog := rest } }) ∧
  (∀ (s : State) (h a n : Nat) (r : HostAgent) (rest : List HostAction), s.stopped = false →
    s.nextTurn = .agent (.host h) → s.hosts[h]? = some r → r.st = .free → r.prog = .read a n :: rest → a + n ≤ 5000 →
    step s = .next { s with
      env := s.env.takeTurn
      hosts := s.hosts.set h { r with prog := rest, data := (List.range n).map fun i => Memory.read s.fb (a + i) } })

/-- A read after a write of a canonical framebuffer list gives the byte written, and every other byte as before; equal
contents are equal lists (20_memory.md section 4). -/
def Obligations.ReadAfterWrite : Prop :=
  (∀ (m : List Host.Cell) (a b : Nat) (v : Byte), Memory.wf m →
    Memory.read (Memory.write m a v) b = if b = a then v else Memory.read m b) ∧
  (∀ m n : List Host.Cell, Memory.wf m → Memory.wf n → (∀ a, Memory.read m a = Memory.read n a) → m = n)

/-- Pixel `(x, y)` leaves the block as bit `7 - x mod 8` of byte `x div 8` of row `y`'s frame, inverted (20_memory.md
section 1). -/
def Obligations.PixelSentInverted : Prop :=
  ∀ (s : State) (x y : Nat), x < 200 → y < 200 →
    s.pixel x y = (Memory.read s.fb (y * 25 + x / 8)).getLsbD (7 - x % 8) ∧
    ((s.rowFrame y)[x / 8]?).map (fun b => b.getLsbD (7 - x % 8)) = some (!s.pixel x y)

/-! What a step runs. -/

/-- A step that falls to a free host agent whose program goes on with a request word runs `exec` of the instruction the
word decodes to, for that agent, the word taken off its program; unless the port holds the issue off. -/
def Obligations.StepRunsRequest : Prop :=
  ∀ (s : State) (h : Nat) (r : HostAgent) (w : ReqWord) (rest : List HostAction), s.stopped = false →
    s.nextTurn = .agent (.host h) → s.hosts[h]? = some r → r.st = .free → r.prog = .request w :: rest →
    (w ∈ [0x1, 0x2, 0x3, 0x4] → s.port = .free) →
    step s = exec (decodeRequest w) { s with
      env := s.env.takeTurn
      hosts := s.hosts.modify h (fun r => { r with prog := rest })
      issuer := h }

/-- A step that falls to SEQ, standing before the panel command `i` alone, runs `exec i` and then, if the operation goes
on, moves to the next entry: so it is where the entry is that command (INIT 4, REFRESH_SYNC 1, SLEEP 0), and where SEQ
stands inside an entry as `withFetchWord` places it. -/
def Obligations.StepRunsCommand : Prop :=
  ∀ (s t : State) (i : Instr) (op : Operation) (h pc : Nat), s.stopped = false → s.nextTurn = .agent .seq →
    s.env.tpSilent = false →
    (s.seq = .run op h pc ∧ (op, pc, i) ∈ [(Operation.init, 4, Instr.swReset), (.refreshSync, 1, .writeRamBw),
        (.sleep, 0, .deepSleep)] ∨
      s.seq = .segment op h pc [.send i, .advance]) →
    exec i { s with env := s.env.takeTurn, seq := .run op h pc } = .next t →
    step s = .next (if t.live = true then { t with seq := t.seq.advance } else t)
end

