-- ==== Sys2Proof/Laws/State.lean ====
section
/-! SUPPORT. One lemma per field per update of the state: what each named update of Machine/Ops.lean changes and what it
leaves, so that no proof unfolds a record update. -/

namespace Sys2Proof.Machine

variable (s : State)

section SetSeq
variable (v : Seq)
@[simp] theorem State.setSeq_mode : (s.setSeq v).mode = s.mode := rfl
@[simp] theorem State.setSeq_seq : (s.setSeq v).seq = v := rfl
@[simp] theorem State.setSeq_row : (s.setSeq v).row = s.row := rfl
@[simp] theorem State.setSeq_lbusy : (s.setSeq v).lbusy = s.lbusy := rfl
@[simp] theorem State.setSeq_signal : (s.setSeq v).signal = s.signal := rfl
@[simp] theorem State.setSeq_waiters : (s.setSeq v).waiters = s.waiters := rfl
@[simp] theorem State.setSeq_port : (s.setSeq v).port = s.port := rfl
@[simp] theorem State.setSeq_faultTp : (s.setSeq v).faultTp = s.faultTp := rfl
@[simp] theorem State.setSeq_faultBc : (s.setSeq v).faultBc = s.faultBc := rfl
@[simp] theorem State.setSeq_rst : (s.setSeq v).rst = s.rst := rfl
@[simp] theorem State.setSeq_panel : (s.setSeq v).panel = s.panel := rfl
@[simp] theorem State.setSeq_hosts : (s.setSeq v).hosts = s.hosts := rfl
@[simp] theorem State.setSeq_fb : (s.setSeq v).fb = s.fb := rfl
@[simp] theorem State.setSeq_trace : (s.setSeq v).trace = s.trace := rfl
@[simp] theorem State.setSeq_cfg : (s.setSeq v).cfg = s.cfg := rfl
@[simp] theorem State.setSeq_issuer : (s.setSeq v).issuer = s.issuer := rfl
@[simp] theorem State.setSeq_env : (s.setSeq v).env = s.env := rfl
end SetSeq

section SetRow
variable (v : Nat)
@[simp] theorem State.setRow_mode : (s.setRow v).mode = s.mode := rfl
@[simp] theorem State.setRow_seq : (s.setRow v).seq = s.seq := rfl
@[simp] theorem State.setRow_row : (s.setRow v).row = v := rfl
@[simp] theorem State.setRow_lbusy : (s.setRow v).lbusy = s.lbusy := rfl
@[simp] theorem State.setRow_signal : (s.setRow v).signal = s.signal := rfl
@[simp] theorem State.setRow_waiters : (s.setRow v).waiters = s.waiters := rfl
@[simp] theorem State.setRow_port : (s.setRow v).port = s.port := rfl
@[simp] theorem State.setRow_faultTp : (s.setRow v).faultTp = s.faultTp := rfl
@[simp] theorem State.setRow_faultBc : (s.setRow v).faultBc = s.faultBc := rfl
@[simp] theorem State.setRow_rst : (s.setRow v).rst = s.rst := rfl
@[simp] theorem State.setRow_panel : (s.setRow v).panel = s.panel := rfl
@[simp] theorem State.setRow_hosts : (s.setRow v).hosts = s.hosts := rfl
@[simp] theorem State.setRow_fb : (s.setRow v).fb = s.fb := rfl
@[simp] theorem State.setRow_trace : (s.setRow v).trace = s.trace := rfl
@[simp] theorem State.setRow_cfg : (s.setRow v).cfg = s.cfg := rfl
@[simp] theorem State.setRow_issuer : (s.setRow v).issuer = s.issuer := rfl
@[simp] theorem State.setRow_env : (s.setRow v).env = s.env := rfl
end SetRow

section SetLbusy
variable (v : Bool)
@[simp] theorem State.setLbusy_mode : (s.setLbusy v).mode = s.mode := rfl
@[simp] theorem State.setLbusy_seq : (s.setLbusy v).seq = s.seq := rfl
@[simp] theorem State.setLbusy_row : (s.setLbusy v).row = s.row := rfl
@[simp] theorem State.setLbusy_lbusy : (s.setLbusy v).lbusy = v := rfl
@[simp] theorem State.setLbusy_signal : (s.setLbusy v).signal = s.signal := rfl
@[simp] theorem State.setLbusy_waiters : (s.setLbusy v).waiters = s.waiters := rfl
@[simp] theorem State.setLbusy_port : (s.setLbusy v).port = s.port := rfl
@[simp] theorem State.setLbusy_faultTp : (s.setLbusy v).faultTp = s.faultTp := rfl
@[simp] theorem State.setLbusy_faultBc : (s.setLbusy v).faultBc = s.faultBc := rfl
@[simp] theorem State.setLbusy_rst : (s.setLbusy v).rst = s.rst := rfl
@[simp] theorem State.setLbusy_panel : (s.setLbusy v).panel = s.panel := rfl
@[simp] theorem State.setLbusy_hosts : (s.setLbusy v).hosts = s.hosts := rfl
@[simp] theorem State.setLbusy_fb : (s.setLbusy v).fb = s.fb := rfl
@[simp] theorem State.setLbusy_trace : (s.setLbusy v).trace = s.trace := rfl
@[simp] theorem State.setLbusy_cfg : (s.setLbusy v).cfg = s.cfg := rfl
@[simp] theorem State.setLbusy_issuer : (s.setLbusy v).issuer = s.issuer := rfl
@[simp] theorem State.setLbusy_env : (s.setLbusy v).env = s.env := rfl
end SetLbusy

section SetSignal
variable (v : Bool)
@[simp] theorem State.setSignal_mode : (s.setSignal v).mode = s.mode := rfl
@[simp] theorem State.setSignal_seq : (s.setSignal v).seq = s.seq := rfl
@[simp] theorem State.setSignal_row : (s.setSignal v).row = s.row := rfl
@[simp] theorem State.setSignal_lbusy : (s.setSignal v).lbusy = s.lbusy := rfl
@[simp] theorem State.setSignal_signal : (s.setSignal v).signal = v := rfl
@[simp] theorem State.setSignal_waiters : (s.setSignal v).waiters = s.waiters := rfl
@[simp] theorem State.setSignal_port : (s.setSignal v).port = s.port := rfl
@[simp] theorem State.setSignal_faultTp : (s.setSignal v).faultTp = s.faultTp := rfl
@[simp] theorem State.setSignal_faultBc : (s.setSignal v).faultBc = s.faultBc := rfl
@[simp] theorem State.setSignal_rst : (s.setSignal v).rst = s.rst := rfl
@[simp] theorem State.setSignal_panel : (s.setSignal v).panel = s.panel := rfl
@[simp] theorem State.setSignal_hosts : (s.setSignal v).hosts = s.hosts := rfl
@[simp] theorem State.setSignal_fb : (s.setSignal v).fb = s.fb := rfl
@[simp] theorem State.setSignal_trace : (s.setSignal v).trace = s.trace := rfl
@[simp] theorem State.setSignal_cfg : (s.setSignal v).cfg = s.cfg := rfl
@[simp] theorem State.setSignal_issuer : (s.setSignal v).issuer = s.issuer := rfl
@[simp] theorem State.setSignal_env : (s.setSignal v).env = s.env := rfl
end SetSignal

section SetWaiters
variable (v : List Nat)
@[simp] theorem State.setWaiters_mode : (s.setWaiters v).mode = s.mode := rfl
@[simp] theorem State.setWaiters_seq : (s.setWaiters v).seq = s.seq := rfl
@[simp] theorem State.setWaiters_row : (s.setWaiters v).row = s.row := rfl
@[simp] theorem State.setWaiters_lbusy : (s.setWaiters v).lbusy = s.lbusy := rfl
@[simp] theorem State.setWaiters_signal : (s.setWaiters v).signal = s.signal := rfl
@[simp] theorem State.setWaiters_waiters : (s.setWaiters v).waiters = v := rfl
@[simp] theorem State.setWaiters_port : (s.setWaiters v).port = s.port := rfl
@[simp] theorem State.setWaiters_faultTp : (s.setWaiters v).faultTp = s.faultTp := rfl
@[simp] theorem State.setWaiters_faultBc : (s.setWaiters v).faultBc = s.faultBc := rfl
@[simp] theorem State.setWaiters_rst : (s.setWaiters v).rst = s.rst := rfl
@[simp] theorem State.setWaiters_panel : (s.setWaiters v).panel = s.panel := rfl
@[simp] theorem State.setWaiters_hosts : (s.setWaiters v).hosts = s.hosts := rfl
@[simp] theorem State.setWaiters_fb : (s.setWaiters v).fb = s.fb := rfl
@[simp] theorem State.setWaiters_trace : (s.setWaiters v).trace = s.trace := rfl
@[simp] theorem State.setWaiters_cfg : (s.setWaiters v).cfg = s.cfg := rfl
@[simp] theorem State.setWaiters_issuer : (s.setWaiters v).issuer = s.issuer := rfl
@[simp] theorem State.setWaiters_env : (s.setWaiters v).env = s.env := rfl
end SetWaiters

section SetPort
variable (v : Port)
@[simp] theorem State.setPort_mode : (s.setPort v).mode = s.mode := rfl
@[simp] theorem State.setPort_seq : (s.setPort v).seq = s.seq := rfl
@[simp] theorem State.setPort_row : (s.setPort v).row = s.row := rfl
@[simp] theorem State.setPort_lbusy : (s.setPort v).lbusy = s.lbusy := rfl
@[simp] theorem State.setPort_signal : (s.setPort v).signal = s.signal := rfl
@[simp] theorem State.setPort_waiters : (s.setPort v).waiters = s.waiters := rfl
@[simp] theorem State.setPort_port : (s.setPort v).port = v := rfl
@[simp] theorem State.setPort_faultTp : (s.setPort v).faultTp = s.faultTp := rfl
@[simp] theorem State.setPort_faultBc : (s.setPort v).faultBc = s.faultBc := rfl
@[simp] theorem State.setPort_rst : (s.setPort v).rst = s.rst := rfl
@[simp] theorem State.setPort_panel : (s.setPort v).panel = s.panel := rfl
@[simp] theorem State.setPort_hosts : (s.setPort v).hosts = s.hosts := rfl
@[simp] theorem State.setPort_fb : (s.setPort v).fb = s.fb := rfl
@[simp] theorem State.setPort_trace : (s.setPort v).trace = s.trace := rfl
@[simp] theorem State.setPort_cfg : (s.setPort v).cfg = s.cfg := rfl
@[simp] theorem State.setPort_issuer : (s.setPort v).issuer = s.issuer := rfl
@[simp] theorem State.setPort_env : (s.setPort v).env = s.env := rfl
end SetPort

section SetFaultTp
variable (v : Bool)
@[simp] theorem State.setFaultTp_mode : (s.setFaultTp v).mode = s.mode := rfl
@[simp] theorem State.setFaultTp_seq : (s.setFaultTp v).seq = s.seq := rfl
@[simp] theorem State.setFaultTp_row : (s.setFaultTp v).row = s.row := rfl
@[simp] theorem State.setFaultTp_lbusy : (s.setFaultTp v).lbusy = s.lbusy := rfl
@[simp] theorem State.setFaultTp_signal : (s.setFaultTp v).signal = s.signal := rfl
@[simp] theorem State.setFaultTp_waiters : (s.setFaultTp v).waiters = s.waiters := rfl
@[simp] theorem State.setFaultTp_port : (s.setFaultTp v).port = s.port := rfl
@[simp] theorem State.setFaultTp_faultTp : (s.setFaultTp v).faultTp = v := rfl
@[simp] theorem State.setFaultTp_faultBc : (s.setFaultTp v).faultBc = s.faultBc := rfl
@[simp] theorem State.setFaultTp_rst : (s.setFaultTp v).rst = s.rst := rfl
@[simp] theorem State.setFaultTp_panel : (s.setFaultTp v).panel = s.panel := rfl
@[simp] theorem State.setFaultTp_hosts : (s.setFaultTp v).hosts = s.hosts := rfl
@[simp] theorem State.setFaultTp_fb : (s.setFaultTp v).fb = s.fb := rfl
@[simp] theorem State.setFaultTp_trace : (s.setFaultTp v).trace = s.trace := rfl
@[simp] theorem State.setFaultTp_cfg : (s.setFaultTp v).cfg = s.cfg := rfl
@[simp] theorem State.setFaultTp_issuer : (s.setFaultTp v).issuer = s.issuer := rfl
@[simp] theorem State.setFaultTp_env : (s.setFaultTp v).env = s.env := rfl
end SetFaultTp

section SetFaultBc
variable (v : Bool)
@[simp] theorem State.setFaultBc_mode : (s.setFaultBc v).mode = s.mode := rfl
@[simp] theorem State.setFaultBc_seq : (s.setFaultBc v).seq = s.seq := rfl
@[simp] theorem State.setFaultBc_row : (s.setFaultBc v).row = s.row := rfl
@[simp] theorem State.setFaultBc_lbusy : (s.setFaultBc v).lbusy = s.lbusy := rfl
@[simp] theorem State.setFaultBc_signal : (s.setFaultBc v).signal = s.signal := rfl
@[simp] theorem State.setFaultBc_waiters : (s.setFaultBc v).waiters = s.waiters := rfl
@[simp] theorem State.setFaultBc_port : (s.setFaultBc v).port = s.port := rfl
@[simp] theorem State.setFaultBc_faultTp : (s.setFaultBc v).faultTp = s.faultTp := rfl
@[simp] theorem State.setFaultBc_faultBc : (s.setFaultBc v).faultBc = v := rfl
@[simp] theorem State.setFaultBc_rst : (s.setFaultBc v).rst = s.rst := rfl
@[simp] theorem State.setFaultBc_panel : (s.setFaultBc v).panel = s.panel := rfl
@[simp] theorem State.setFaultBc_hosts : (s.setFaultBc v).hosts = s.hosts := rfl
@[simp] theorem State.setFaultBc_fb : (s.setFaultBc v).fb = s.fb := rfl
@[simp] theorem State.setFaultBc_trace : (s.setFaultBc v).trace = s.trace := rfl
@[simp] theorem State.setFaultBc_cfg : (s.setFaultBc v).cfg = s.cfg := rfl
@[simp] theorem State.setFaultBc_issuer : (s.setFaultBc v).issuer = s.issuer := rfl
@[simp] theorem State.setFaultBc_env : (s.setFaultBc v).env = s.env := rfl
end SetFaultBc

section SetRst
variable (v : Bool)
@[simp] theorem State.setRst_mode : (s.setRst v).mode = s.mode := rfl
@[simp] theorem State.setRst_seq : (s.setRst v).seq = s.seq := rfl
@[simp] theorem State.setRst_row : (s.setRst v).row = s.row := rfl
@[simp] theorem State.setRst_lbusy : (s.setRst v).lbusy = s.lbusy := rfl
@[simp] theorem State.setRst_signal : (s.setRst v).signal = s.signal := rfl
@[simp] theorem State.setRst_waiters : (s.setRst v).waiters = s.waiters := rfl
@[simp] theorem State.setRst_port : (s.setRst v).port = s.port := rfl
@[simp] theorem State.setRst_faultTp : (s.setRst v).faultTp = s.faultTp := rfl
@[simp] theorem State.setRst_faultBc : (s.setRst v).faultBc = s.faultBc := rfl
@[simp] theorem State.setRst_rst : (s.setRst v).rst = v := rfl
@[simp] theorem State.setRst_panel : (s.setRst v).panel = s.panel := rfl
@[simp] theorem State.setRst_hosts : (s.setRst v).hosts = s.hosts := rfl
@[simp] theorem State.setRst_fb : (s.setRst v).fb = s.fb := rfl
@[simp] theorem State.setRst_trace : (s.setRst v).trace = s.trace := rfl
@[simp] theorem State.setRst_cfg : (s.setRst v).cfg = s.cfg := rfl
@[simp] theorem State.setRst_issuer : (s.setRst v).issuer = s.issuer := rfl
@[simp] theorem State.setRst_env : (s.setRst v).env = s.env := rfl
end SetRst

section SetPanel
variable (v : Panel)
@[simp] theorem State.setPanel_mode : (s.setPanel v).mode = s.mode := rfl
@[simp] theorem State.setPanel_seq : (s.setPanel v).seq = s.seq := rfl
@[simp] theorem State.setPanel_row : (s.setPanel v).row = s.row := rfl
@[simp] theorem State.setPanel_lbusy : (s.setPanel v).lbusy = s.lbusy := rfl
@[simp] theorem State.setPanel_signal : (s.setPanel v).signal = s.signal := rfl
@[simp] theorem State.setPanel_waiters : (s.setPanel v).waiters = s.waiters := rfl
@[simp] theorem State.setPanel_port : (s.setPanel v).port = s.port := rfl
@[simp] theorem State.setPanel_faultTp : (s.setPanel v).faultTp = s.faultTp := rfl
@[simp] theorem State.setPanel_faultBc : (s.setPanel v).faultBc = s.faultBc := rfl
@[simp] theorem State.setPanel_rst : (s.setPanel v).rst = s.rst := rfl
@[simp] theorem State.setPanel_panel : (s.setPanel v).panel = v := rfl
@[simp] theorem State.setPanel_hosts : (s.setPanel v).hosts = s.hosts := rfl
@[simp] theorem State.setPanel_fb : (s.setPanel v).fb = s.fb := rfl
@[simp] theorem State.setPanel_trace : (s.setPanel v).trace = s.trace := rfl
@[simp] theorem State.setPanel_cfg : (s.setPanel v).cfg = s.cfg := rfl
@[simp] theorem State.setPanel_issuer : (s.setPanel v).issuer = s.issuer := rfl
@[simp] theorem State.setPanel_env : (s.setPanel v).env = s.env := rfl
end SetPanel

section SetHosts
variable (v : List HostAgent)
@[simp] theorem State.setHosts_mode : (s.setHosts v).mode = s.mode := rfl
@[simp] theorem State.setHosts_seq : (s.setHosts v).seq = s.seq := rfl
@[simp] theorem State.setHosts_row : (s.setHosts v).row = s.row := rfl
@[simp] theorem State.setHosts_lbusy : (s.setHosts v).lbusy = s.lbusy := rfl
@[simp] theorem State.setHosts_signal : (s.setHosts v).signal = s.signal := rfl
@[simp] theorem State.setHosts_waiters : (s.setHosts v).waiters = s.waiters := rfl
@[simp] theorem State.setHosts_port : (s.setHosts v).port = s.port := rfl
@[simp] theorem State.setHosts_faultTp : (s.setHosts v).faultTp = s.faultTp := rfl
@[simp] theorem State.setHosts_faultBc : (s.setHosts v).faultBc = s.faultBc := rfl
@[simp] theorem State.setHosts_rst : (s.setHosts v).rst = s.rst := rfl
@[simp] theorem State.setHosts_panel : (s.setHosts v).panel = s.panel := rfl
@[simp] theorem State.setHosts_hosts : (s.setHosts v).hosts = v := rfl
@[simp] theorem State.setHosts_fb : (s.setHosts v).fb = s.fb := rfl
@[simp] theorem State.setHosts_trace : (s.setHosts v).trace = s.trace := rfl
@[simp] theorem State.setHosts_cfg : (s.setHosts v).cfg = s.cfg := rfl
@[simp] theorem State.setHosts_issuer : (s.setHosts v).issuer = s.issuer := rfl
@[simp] theorem State.setHosts_env : (s.setHosts v).env = s.env := rfl
end SetHosts

section SetFb
variable (v : List Host.Cell)
@[simp] theorem State.setFb_mode : (s.setFb v).mode = s.mode := rfl
@[simp] theorem State.setFb_seq : (s.setFb v).seq = s.seq := rfl
@[simp] theorem State.setFb_row : (s.setFb v).row = s.row := rfl
@[simp] theorem State.setFb_lbusy : (s.setFb v).lbusy = s.lbusy := rfl
@[simp] theorem State.setFb_signal : (s.setFb v).signal = s.signal := rfl
@[simp] theorem State.setFb_waiters : (s.setFb v).waiters = s.waiters := rfl
@[simp] theorem State.setFb_port : (s.setFb v).port = s.port := rfl
@[simp] theorem State.setFb_faultTp : (s.setFb v).faultTp = s.faultTp := rfl
@[simp] theorem State.setFb_faultBc : (s.setFb v).faultBc = s.faultBc := rfl
@[simp] theorem State.setFb_rst : (s.setFb v).rst = s.rst := rfl
@[simp] theorem State.setFb_panel : (s.setFb v).panel = s.panel := rfl
@[simp] theorem State.setFb_hosts : (s.setFb v).hosts = s.hosts := rfl
@[simp] theorem State.setFb_fb : (s.setFb v).fb = v := rfl
@[simp] theorem State.setFb_trace : (s.setFb v).trace = s.trace := rfl
@[simp] theorem State.setFb_cfg : (s.setFb v).cfg = s.cfg := rfl
@[simp] theorem State.setFb_issuer : (s.setFb v).issuer = s.issuer := rfl
@[simp] theorem State.setFb_env : (s.setFb v).env = s.env := rfl
end SetFb

section SetTrace
variable (v : List Event)
@[simp] theorem State.setTrace_mode : (s.setTrace v).mode = s.mode := rfl
@[simp] theorem State.setTrace_seq : (s.setTrace v).seq = s.seq := rfl
@[simp] theorem State.setTrace_row : (s.setTrace v).row = s.row := rfl
@[simp] theorem State.setTrace_lbusy : (s.setTrace v).lbusy = s.lbusy := rfl
@[simp] theorem State.setTrace_signal : (s.setTrace v).signal = s.signal := rfl
@[simp] theorem State.setTrace_waiters : (s.setTrace v).waiters = s.waiters := rfl
@[simp] theorem State.setTrace_port : (s.setTrace v).port = s.port := rfl
@[simp] theorem State.setTrace_faultTp : (s.setTrace v).faultTp = s.faultTp := rfl
@[simp] theorem State.setTrace_faultBc : (s.setTrace v).faultBc = s.faultBc := rfl
@[simp] theorem State.setTrace_rst : (s.setTrace v).rst = s.rst := rfl
@[simp] theorem State.setTrace_panel : (s.setTrace v).panel = s.panel := rfl
@[simp] theorem State.setTrace_hosts : (s.setTrace v).hosts = s.hosts := rfl
@[simp] theorem State.setTrace_fb : (s.setTrace v).fb = s.fb := rfl
@[simp] theorem State.setTrace_trace : (s.setTrace v).trace = v := rfl
@[simp] theorem State.setTrace_cfg : (s.setTrace v).cfg = s.cfg := rfl
@[simp] theorem State.setTrace_issuer : (s.setTrace v).issuer = s.issuer := rfl
@[simp] theorem State.setTrace_env : (s.setTrace v).env = s.env := rfl
end SetTrace

section SetIssuer
variable (v : Nat)
@[simp] theorem State.setIssuer_mode : (s.setIssuer v).mode = s.mode := rfl
@[simp] theorem State.setIssuer_seq : (s.setIssuer v).seq = s.seq := rfl
@[simp] theorem State.setIssuer_row : (s.setIssuer v).row = s.row := rfl
@[simp] theorem State.setIssuer_lbusy : (s.setIssuer v).lbusy = s.lbusy := rfl
@[simp] theorem State.setIssuer_signal : (s.setIssuer v).signal = s.signal := rfl
@[simp] theorem State.setIssuer_waiters : (s.setIssuer v).waiters = s.waiters := rfl
@[simp] theorem State.setIssuer_port : (s.setIssuer v).port = s.port := rfl
@[simp] theorem State.setIssuer_faultTp : (s.setIssuer v).faultTp = s.faultTp := rfl
@[simp] theorem State.setIssuer_faultBc : (s.setIssuer v).faultBc = s.faultBc := rfl
@[simp] theorem State.setIssuer_rst : (s.setIssuer v).rst = s.rst := rfl
@[simp] theorem State.setIssuer_panel : (s.setIssuer v).panel = s.panel := rfl
@[simp] theorem State.setIssuer_hosts : (s.setIssuer v).hosts = s.hosts := rfl
@[simp] theorem State.setIssuer_fb : (s.setIssuer v).fb = s.fb := rfl
@[simp] theorem State.setIssuer_trace : (s.setIssuer v).trace = s.trace := rfl
@[simp] theorem State.setIssuer_cfg : (s.setIssuer v).cfg = s.cfg := rfl
@[simp] theorem State.setIssuer_issuer : (s.setIssuer v).issuer = v := rfl
@[simp] theorem State.setIssuer_env : (s.setIssuer v).env = s.env := rfl
end SetIssuer

section SetEnv
variable (v : Env)
@[simp] theorem State.setEnv_mode : (s.setEnv v).mode = s.mode := rfl
@[simp] theorem State.setEnv_seq : (s.setEnv v).seq = s.seq := rfl
@[simp] theorem State.setEnv_row : (s.setEnv v).row = s.row := rfl
@[simp] theorem State.setEnv_lbusy : (s.setEnv v).lbusy = s.lbusy := rfl
@[simp] theorem State.setEnv_signal : (s.setEnv v).signal = s.signal := rfl
@[simp] theorem State.setEnv_waiters : (s.setEnv v).waiters = s.waiters := rfl
@[simp] theorem State.setEnv_port : (s.setEnv v).port = s.port := rfl
@[simp] theorem State.setEnv_faultTp : (s.setEnv v).faultTp = s.faultTp := rfl
@[simp] theorem State.setEnv_faultBc : (s.setEnv v).faultBc = s.faultBc := rfl
@[simp] theorem State.setEnv_rst : (s.setEnv v).rst = s.rst := rfl
@[simp] theorem State.setEnv_panel : (s.setEnv v).panel = s.panel := rfl
@[simp] theorem State.setEnv_hosts : (s.setEnv v).hosts = s.hosts := rfl
@[simp] theorem State.setEnv_fb : (s.setEnv v).fb = s.fb := rfl
@[simp] theorem State.setEnv_trace : (s.setEnv v).trace = s.trace := rfl
@[simp] theorem State.setEnv_cfg : (s.setEnv v).cfg = s.cfg := rfl
@[simp] theorem State.setEnv_issuer : (s.setEnv v).issuer = s.issuer := rfl
@[simp] theorem State.setEnv_env : (s.setEnv v).env = v := rfl
end SetEnv

section Emit
variable (e : Event)
@[simp] theorem State.emit_mode : (s.emit e).mode = s.mode := rfl
@[simp] theorem State.emit_seq : (s.emit e).seq = s.seq := rfl
@[simp] theorem State.emit_row : (s.emit e).row = s.row := rfl
@[simp] theorem State.emit_lbusy : (s.emit e).lbusy = s.lbusy := rfl
@[simp] theorem State.emit_signal : (s.emit e).signal = s.signal := rfl
@[simp] theorem State.emit_waiters : (s.emit e).waiters = s.waiters := rfl
@[simp] theorem State.emit_port : (s.emit e).port = s.port := rfl
@[simp] theorem State.emit_faultTp : (s.emit e).faultTp = s.faultTp := rfl
@[simp] theorem State.emit_faultBc : (s.emit e).faultBc = s.faultBc := rfl
@[simp] theorem State.emit_rst : (s.emit e).rst = s.rst := rfl
@[simp] theorem State.emit_panel : (s.emit e).panel = s.panel := rfl
@[simp] theorem State.emit_hosts : (s.emit e).hosts = s.hosts := rfl
@[simp] theorem State.emit_fb : (s.emit e).fb = s.fb := rfl
@[simp] theorem State.emit_trace : (s.emit e).trace = s.trace ++ [e] := rfl
@[simp] theorem State.emit_cfg : (s.emit e).cfg = s.cfg := rfl
@[simp] theorem State.emit_issuer : (s.emit e).issuer = s.issuer := rfl
@[simp] theorem State.emit_env : (s.emit e).env = s.env := rfl
end Emit

section SetSt
variable (h : Nat) (st : HostStatus)
@[simp] theorem State.setSt_mode : (s.setSt h st).mode = s.mode := rfl
@[simp] theorem State.setSt_seq : (s.setSt h st).seq = s.seq := rfl
@[simp] theorem State.setSt_row : (s.setSt h st).row = s.row := rfl
@[simp] theorem State.setSt_lbusy : (s.setSt h st).lbusy = s.lbusy := rfl
@[simp] theorem State.setSt_signal : (s.setSt h st).signal = s.signal := rfl
@[simp] theorem State.setSt_waiters : (s.setSt h st).waiters = s.waiters := rfl
@[simp] theorem State.setSt_port : (s.setSt h st).port = s.port := rfl
@[simp] theorem State.setSt_faultTp : (s.setSt h st).faultTp = s.faultTp := rfl
@[simp] theorem State.setSt_faultBc : (s.setSt h st).faultBc = s.faultBc := rfl
@[simp] theorem State.setSt_rst : (s.setSt h st).rst = s.rst := rfl
@[simp] theorem State.setSt_panel : (s.setSt h st).panel = s.panel := rfl
@[simp] theorem State.setSt_hosts : (s.setSt h st).hosts = s.hosts.modify h (fun r => r.setSt st) := rfl
@[simp] theorem State.setSt_fb : (s.setSt h st).fb = s.fb := rfl
@[simp] theorem State.setSt_trace : (s.setSt h st).trace = s.trace := rfl
@[simp] theorem State.setSt_cfg : (s.setSt h st).cfg = s.cfg := rfl
@[simp] theorem State.setSt_issuer : (s.setSt h st).issuer = s.issuer := rfl
@[simp] theorem State.setSt_env : (s.setSt h st).env = s.env := rfl
end SetSt

section TakeTurn
@[simp] theorem State.takeTurn_mode : s.takeTurn.mode = s.mode := rfl
@[simp] theorem State.takeTurn_seq : s.takeTurn.seq = s.seq := rfl
@[simp] theorem State.takeTurn_row : s.takeTurn.row = s.row := rfl
@[simp] theorem State.takeTurn_lbusy : s.takeTurn.lbusy = s.lbusy := rfl
@[simp] theorem State.takeTurn_signal : s.takeTurn.signal = s.signal := rfl
@[simp] theorem State.takeTurn_waiters : s.takeTurn.waiters = s.waiters := rfl
@[simp] theorem State.takeTurn_port : s.takeTurn.port = s.port := rfl
@[simp] theorem State.takeTurn_faultTp : s.takeTurn.faultTp = s.faultTp := rfl
@[simp] theorem State.takeTurn_faultBc : s.takeTurn.faultBc = s.faultBc := rfl
@[simp] theorem State.takeTurn_rst : s.takeTurn.rst = s.rst := rfl
@[simp] theorem State.takeTurn_panel : s.takeTurn.panel = s.panel := rfl
@[simp] theorem State.takeTurn_hosts : s.takeTurn.hosts = s.hosts := rfl
@[simp] theorem State.takeTurn_fb : s.takeTurn.fb = s.fb := rfl
@[simp] theorem State.takeTurn_trace : s.takeTurn.trace = s.trace := rfl
@[simp] theorem State.takeTurn_cfg : s.takeTurn.cfg = s.cfg := rfl
@[simp] theorem State.takeTurn_issuer : s.takeTurn.issuer = s.issuer := rfl
@[simp] theorem State.takeTurn_env : s.takeTurn.env = s.env.takeTurn := rfl
end TakeTurn

end Sys2Proof.Machine
end

