-- ==== Sys2Proof/Laws/Memory.lean ====
section
/-! SUPPORT. Every memory operation keeps the framebuffer list canonical. -/

namespace Sys2Proof.Machine

/-- What an offset listed after a write was listed before, or is the one written. -/
theorem Memory.mem_write {m : List Host.Cell} {a : Nat} {v : Byte} {c : Host.Cell}
    (h : c ∈ Memory.write m a v) : c ∈ m ∨ (c = (a, v) ∧ v ≠ unlisted) := by
  induction m with
  | nil =>
    simp only [Memory.write] at h
    split at h <;> simp_all
  | cons d m ih =>
    obtain ⟨b, w⟩ := d
    simp only [Memory.write] at h
    split at h
    · split at h
      · exact .inl h
      · rcases List.mem_cons.mp h with h | h
        · exact .inr ⟨h, ‹_›⟩
        · exact .inl h
    · split at h
      · split at h
        · exact .inl (List.mem_cons_of_mem _ h)
        · rcases List.mem_cons.mp h with h | h
          · exact .inr ⟨h, ‹_›⟩
          · exact .inl (List.mem_cons_of_mem _ h)
      · rcases List.mem_cons.mp h with h | h
        · exact .inl (h ▸ List.mem_cons_self)
        · exact (ih h).imp (List.mem_cons_of_mem _) id

/-- A write inside the framebuffer keeps the canonical form. -/
theorem Memory.write_wf {m : List Host.Cell} {a : Nat} (v : Byte) (hm : Memory.wf m) (ha : a < Config.fbSize) :
    Memory.wf (Memory.write m a v) := by
  refine ⟨?_, fun c hc => ?_⟩
  · have hr := hm.1
    clear hm
    induction m with
    | nil => simp only [Memory.write]; split <;> simp
    | cons d m ih =>
      obtain ⟨b, w⟩ := d
      obtain ⟨hb, hm⟩ := List.pairwise_cons.mp hr
      simp only [Memory.write]
      split
      · split
        · exact hr
        · refine List.pairwise_cons.mpr ⟨fun c hc => ?_, hr⟩
          rcases List.mem_cons.mp hc with rfl | hc
          · assumption
          · exact Nat.lt_trans ‹_› (hb c hc)
      · split
        · split
          · exact hm
          · subst b
            exact List.pairwise_cons.mpr ⟨hb, hm⟩
        · refine List.pairwise_cons.mpr ⟨fun c hc => ?_, ih hm⟩
          rcases Memory.mem_write hc with hc | ⟨rfl, -⟩
          · exact hb c hc
          · exact Nat.lt_of_le_of_ne (Nat.le_of_not_lt ‹_›) (Ne.symm ‹_›)
  · rcases Memory.mem_write hc with hc | ⟨rfl, hv⟩
    · exact hm.2 c hc
    · exact ⟨hv, ha⟩

/-- The framebuffer a block reset is launched with is canonical. -/
theorem Memory.ofCells_wf (cells : List Host.Cell) : Memory.wf (Memory.ofCells cells) := by
  have key : ∀ (cells : List Host.Cell) (m : List Host.Cell), Memory.wf m →
      Memory.wf (cells.foldl (fun m c => if c.1 < Config.fbSize then Memory.write m c.1 c.2 else m) m) := by
    intro cells
    induction cells with
    | nil => exact fun m h => h
    | cons c cs ih =>
      intro m h
      refine ih _ ?_
      dsimp only
      split
      · exact Memory.write_wf _ h ‹_›
      · exact h
  exact key cells [] ⟨List.Pairwise.nil, by simp⟩

/-- A host agent's framebuffer write keeps the canonical form. -/
theorem State.memWrite_wf {s t : State} {a : Nat} {v : Byte} (hs : Memory.wf s.fb) (h : s.memWrite a v = some t) :
    Memory.wf t.fb := by
  unfold State.memWrite at h
  split at h
  · cases h
    exact Memory.write_wf v hs ‹_›
  · cases h

/-- The framebuffer of the state after reset is canonical. -/
theorem State.reset_memory : Memory.wf State.reset.fb := ⟨List.Pairwise.nil, by simp [State.reset, State.launch]⟩

/-- Reading `n` bytes gives `n` bytes. -/
@[simp] theorem Memory.readBytes_length (m : List Host.Cell) (addr n : Nat) :
    (Memory.readBytes m addr n).length = n := by
  simp [Memory.readBytes]

/-- Byte `i` of a read is the byte at offset `addr + i`. -/
theorem Memory.readBytes_getElem (m : List Host.Cell) (addr n i : Nat) (h : i < n) :
    (Memory.readBytes m addr n)[i]? = some (Memory.read m (addr + i)) := by
  simp [Memory.readBytes, h]

end Sys2Proof.Machine
end

