-- ==== Sys2Proof/Laws/Ops.lean ====
section
/-! SUPPORT. What each shared operation can do, said once: respond, a frame on the transport, a command with its
parameters, a busy sample, a firing. -/

namespace Sys2Proof.Machine

/-! respond and the errors. -/

/-- `respond` frees the agent and, if the agent holds it, the port, and appends the response. -/
theorem State.respond_eq (s : State) (h : Nat) (c : Response) :
    s.respond h c = { s with
      hosts := s.hosts.modify h (fun r => r.setSt .free)
      trace := s.trace ++ [.resp h c]
      port := if s.port = .held h then .free else s.port } := by
  unfold State.respond
  dsimp only
  split <;> rfl

/-- `respond` to an agent that does not hold the port leaves the port. -/
theorem State.respond_of_port_free (s : State) (h : Nat) (c : Response) (hp : s.port = .free) :
    s.respond h c = { s with
      hosts := s.hosts.modify h (fun r => r.setSt .free)
      trace := s.trace ++ [.resp h c] } := by
  simp [State.respond_eq, hp]

/-- A failed frame of the background refresh raises `Fault(TRANSPORT)`. -/
theorem State.abort_coop {s : State} {h pc : Nat} (hs : s.seq = .run .refreshCoop h pc) :
    s.abort = { s with faultTp := true, trace := s.trace ++ [.fault .transport] } := by
  cases s
  subst hs
  rfl

/-- A failed frame of any other operation ends it with `TRANSPORT_ERROR` to its requester. -/
theorem State.abort_holding {s : State} {op : Operation} {h pc : Nat} (hs : s.seq = .run op h pc)
    (hop : op ≠ .refreshCoop) : s.abort = (s.setSeq .idle).respond h .transportError := by
  unfold State.abort
  rw [hs]
  cases op <;> simp_all

/-! Frames. -/

/-- A frame whose result is true adds its event and nothing else. -/
theorem State.sendFrame_ok {s : State} (dc : Select) (l : List Byte) (h : s.tpResult = true) :
    s.sendFrame dc l = { s with env := s.env.takeOk, trace := s.trace ++ [.frame dc l true] } := by
  unfold State.sendFrame
  rw [h]
  rfl

/-- A frame whose result is false adds its event, leaves the panel unknown and ends the operation. -/
theorem State.sendFrame_failed {s : State} (dc : Select) (l : List Byte) (h : s.tpResult = false) :
    s.sendFrame dc l = State.abort { s with
      env := s.env.takeOk
      trace := s.trace ++ [.frame dc l false]
      panel := .undefined } := by
  unfold State.sendFrame
  rw [h]
  rfl

/-- A command without parameters is one frame. -/
@[simp] theorem State.cmd_nil (s : State) (op : Byte) : s.cmd op [] = s.sendFrame .command [op] := rfl

/-- A command whose first frame fails sends no data frame. -/
theorem State.cmd_of_not_live {s : State} {op : Byte} (l : List Byte)
    (h : (s.sendFrame .command [op]).live = false) : s.cmd op l = s.sendFrame .command [op] := by
  cases l with
  | nil => rfl
  | cons b bs => simp [State.cmd, State.sendCmd, State.andThen, h]

/-- A command all of whose frames are answered with success adds their events and nothing else. -/
theorem State.cmd_ok {s : State} (op : Byte) (l : List Byte) (hl : s.live = true) (h1 : s.tpResult = true)
    (h2 : l ≠ [] → (s.setEnv s.env.takeOk).tpResult = true) :
    s.cmd op l = { s with
      env := if l = [] then s.env.takeOk else s.env.takeOk.takeOk
      trace := s.trace ++
        (if l = [] then [.frame .command [op] true] else [.frame .command [op] true, .frame .data l true]) } := by
  cases l with
  | nil => simp [State.sendFrame_ok _ _ h1]
  | cons b bs =>
    have h2 := h2 (by simp)
    have hl' : (s.sendFrame .command [op]).live = true := by
      rw [State.sendFrame_ok _ _ h1]
      exact hl
    have h3 : (s.sendFrame .command [op]).tpResult = true := by
      rw [State.sendFrame_ok _ _ h1]
      exact h2
    rw [State.cmd, State.sendCmd, State.andThen, if_pos hl', State.sendFrame_ok _ _ h3, State.sendFrame_ok _ _ h1]
    simp

/-- A panel command in a running operation of a block that is not stopped, with a transport that answers, is its `Cmd`. -/
theorem State.seqCmd_live {s : State} (op : Byte) (l : List Byte) (hl : s.live = true)
    (ht : s.env.tpSilent = false) : s.seqCmd op l = .next (s.cmd op l) := by
  simp only [State.live, Bool.and_eq_true, Bool.not_eq_true'] at hl
  simp [State.seqCmd, hl.1, hl.2, ht]

/-- Where SEQ has no step a panel command changes nothing. -/
theorem State.seqCmd_no_step {s : State} (op : Byte) (l : List Byte) (hs : s.stopped = false)
    (h : s.seq.isIdle = true ∨ s.env.tpSilent = true) : s.seqCmd op l = .next s := by
  rcases h with h | h <;> simp [State.seqCmd, hs, h]

/-! Firing. -/

/-- A host agent after the waiters `ws` have been answered: free if it is one of them, else as it was. -/
theorem hosts_answered (ws : List Nat) (l : List HostAgent) (g : Nat) :
    (ws.foldl (fun l h => l.modify h (fun r => r.setSt .free)) l)[g]? =
      if g ∈ ws then (l[g]?).map (fun r => r.setSt .free) else l[g]? := by
  induction ws generalizing l with
  | nil => simp
  | cons w ws ih =>
    rw [List.foldl_cons, ih, List.getElem?_modify]
    by_cases h : w = g
    · subst h
      cases l[w]? <;> simp [HostAgent.setSt]
    · cases l[g]? <;> simp [h, Ne.symm h]

/-- Every order a firing answers in is an order of the waiters. -/
theorem orderBy_perm (k : Nat → Nat) (ws : List Nat) : (orderBy k ws).Perm ws := by
  induction ws with
  | nil => rfl
  | cons w ws ih =>
    unfold orderBy
    split
    · rename_i h
      rw [h] at ih
      rw [List.nil_perm.mp ih]
    · refine List.Perm.trans (List.perm_insertIdx w _ ?_) (ih.cons w)
      exact Nat.le_of_lt_succ (Nat.mod_lt _ (Nat.succ_pos _))

/-- Answering a list of agents while the port is free: each is freed, the responses stand in the list's order. -/
theorem State.answerAll_eq (s : State) (hs : List Nat) (hp : s.port = .free) :
    s.answerAll hs = { s with
      hosts := hs.foldl (fun l h => l.modify h (fun r => r.setSt .free)) s.hosts
      trace := s.trace ++ hs.map (fun h => .resp h .ok) } := by
  unfold State.answerAll
  induction hs generalizing s with
  | nil => simp
  | cons h hs ih =>
    rw [List.foldl_cons, State.respond_of_port_free s h .ok hp, ih]
    · simp
    · exact hp

/-- A firing while the port is free: every waiter is freed and answered, then `Done`; no one waits and the signal is 0. -/
theorem State.fire_eq (s : State) (hp : s.port = .free) :
    s.fire = { s with
      hosts := s.answerOrder.foldl (fun l h => l.modify h (fun r => r.setSt .free)) s.hosts
      trace := s.trace ++ s.answerOrder.map (fun h => .resp h .ok) ++ [.done]
      waiters := []
      signal := false
      env := s.env.takeOrder s.waiters.length } := by
  unfold State.fire
  dsimp only
  rw [State.answerAll_eq _ _ (by exact hp)]
  rfl

/-! Requests. -/

/-- A request in a block that is not stopped, from an agent that is free, does what its issue step says. -/
theorem State.issue_free {s : State} (f : State → State) (hs : s.stopped = false)
    (hf : s.st? s.issuer = some .free) : s.issue f = .next (f s) := by
  simp [State.issue, State.issuerFree, hs, hf]

/-- Every request of a stopped block answers the fault `stopped`. -/
theorem State.issue_stopped {s : State} (f : State → State) (hs : s.stopped = true) : s.issue f = .fault .stopped := by
  simp [State.issue, hs]

/-- What a request can answer: the fault of a stopped block, nothing done, or its issue step. -/
theorem State.issue_cases (s : State) (f : State → State) :
    (s.stopped = true ∧ s.issue f = .fault .stopped) ∨
    (s.stopped = false ∧ s.issuerFree = false ∧ s.issue f = .next s) ∨
    (s.stopped = false ∧ s.issuerFree = true ∧ s.issue f = .next (f s)) := by
  unfold State.issue
  cases s.stopped <;> cases s.issuerFree <;> simp

/-- What a port-using issue step can do (30_encoding.md R111). -/
theorem State.issueOnPort_cases (s : State) (conflict accept : State → State) :
    (s.port ≠ .free ∧ s.issueOnPort conflict accept = s) ∨
    (s.port = .free ∧ s.mode = .coop ∧ s.lbusy = true ∧ s.issueOnPort conflict accept = conflict s) ∨
    (s.port = .free ∧ ¬(s.mode = .coop ∧ s.lbusy = true) ∧ s.issueOnPort conflict accept = accept s) := by
  unfold State.issueOnPort
  cases hp : s.port with
  | free => by_cases hc : s.mode = .coop ∧ s.lbusy = true <;> simp [hc]
  | held g => simp

end Sys2Proof.Machine
end

