-- ==== Sys2Proof/Laws/PerInstr.lean ====
section
/-! SUPPORT. Per-instruction statements: what kind of code each instruction has (30_encoding.md R100, R101, R104). -/

namespace Sys2Proof.Laws.Kind

/-- Under any opcodes the instruction's code is well formed; it is a request word exactly when the instruction is a host
request, and a command frame of one byte exactly when it is a panel command. -/
def Statement (i : Instr) : Prop :=
  ∀ o : Opcodes, (encode o i).wf = true ∧
    (i.isRequest = true ↔ ∃ w, encode o i = .request w) ∧
    (i.isRequest = false ↔ ∃ b, encode o i = .frame (commandFrame b))

/-- An instruction encoded as a request word. -/
theorem of_request {i : Instr} {w : ReqWord} (hi : i.isRequest = true) (h : ∀ o, encode o i = .request w) :
    Statement i := fun o => by simp [h, hi, Code.wf]

/-- An instruction encoded as a command frame. -/
theorem of_command {i : Instr} (b : Opcodes → Byte) (hi : i.isRequest = false)
    (h : ∀ o, encode o i = .frame (commandFrame (b o))) : Statement i := fun o => by
  simp [h, hi, Code.wf, commandFrame, Frame.wf]

theorem init : Statement .init := of_request rfl fun _ => rfl

theorem refresh : Statement .refresh := of_request rfl fun _ => rfl

theorem powerOn : Statement .powerOn := of_request rfl fun _ => rfl

theorem sleep : Statement .sleep := of_request rfl fun _ => rfl

theorem waitReady : Statement .waitReady := of_request rfl fun _ => rfl

theorem waitDone : Statement .waitDone := of_request rfl fun _ => rfl

theorem reserved0 : Statement .reserved0 := of_request rfl fun _ => rfl

theorem reserved7 : Statement .reserved7 := of_request rfl fun _ => rfl

theorem reserved8 (code : ReqWord) : Statement (.reserved8 code) := of_request rfl fun _ => rfl

theorem swReset : Statement .swReset := of_command Opcodes.swReset rfl fun _ => rfl

theorem driverOutputControl : Statement .driverOutputControl := of_command Opcodes.driverOutputControl rfl fun _ => rfl

theorem dataEntryMode : Statement .dataEntryMode := of_command Opcodes.dataEntryMode rfl fun _ => rfl

theorem ramXRange : Statement .ramXRange := of_command Opcodes.ramXRange rfl fun _ => rfl

theorem ramYRange : Statement .ramYRange := of_command Opcodes.ramYRange rfl fun _ => rfl

theorem borderWaveform : Statement .borderWaveform := of_command Opcodes.borderWaveform rfl fun _ => rfl

theorem vendorReg : Statement .vendorReg := of_command Opcodes.vendorReg rfl fun _ => rfl

theorem ramXCursor : Statement .ramXCursor := of_command Opcodes.ramXCursor rfl fun _ => rfl

theorem ramYCursor : Statement .ramYCursor := of_command Opcodes.ramYCursor rfl fun _ => rfl

theorem writeLut : Statement .writeLut := of_command Opcodes.writeLut rfl fun _ => rfl

theorem driveControl : Statement .driveControl := of_command Opcodes.driveControl rfl fun _ => rfl

theorem gateVoltage : Statement .gateVoltage := of_command Opcodes.gateVoltage rfl fun _ => rfl

theorem sourceVoltage : Statement .sourceVoltage := of_command Opcodes.sourceVoltage rfl fun _ => rfl

theorem vcom : Statement .vcom := of_command Opcodes.vcom rfl fun _ => rfl

theorem writeRamBw : Statement .writeRamBw := of_command Opcodes.writeRamBw rfl fun _ => rfl

theorem deepSleep : Statement .deepSleep := of_command Opcodes.deepSleep rfl fun _ => rfl

theorem displayUpdateControl2 : Statement .displayUpdateControl2 :=
  of_command (fun _ => Config.opDisplayUpdateControl2) rfl fun _ => rfl

theorem masterActivation : Statement .masterActivation :=
  of_command (fun _ => Config.opMasterActivation) rfl fun _ => rfl

end Sys2Proof.Laws.Kind
end

