-- ==== Sys2Proof/Laws/Sequencer.lean ====
section
/-! SUPPORT. What a command, a run of commands and a row can do, said once: every frame succeeds and only the trace and
the environment change, or one fails and the operation ends there. -/

namespace Sys2Proof.Machine

/-- `t` is `s` after the frames `pre`, all answered with success. -/
def Sent (s t : State) (pre : List Event) : Prop :=
  (∀ ev ∈ pre, ∃ dc l, ev = .frame dc l true) ∧
  ∃ e, e.tpSilent = s.env.tpSilent ∧ t = { s with env := e, trace := s.trace ++ pre }

/-- `t` is `s` after frames answered with success and then one that failed. -/
def SendFailed (s t : State) : Prop :=
  ∃ e pre dc l, (∀ ev ∈ pre, ∃ dc l, ev = Event.frame dc l true) ∧
    t = State.abort { s with env := e, trace := s.trace ++ pre ++ [.frame dc l false], panel := .undefined }

/-! Statements. -/

@[simp] theorem State.runStmts_nil (s : State) : s.runStmts [] = s := rfl

/-- The last statement of an entry. -/
@[simp] theorem State.runStmts_single (s : State) (c : Stmt) : s.runStmts [c] = s.runStmt c := by
  simp only [State.runStmts, State.andThen, ite_self]

/-- A statement after which the operation goes on. -/
theorem State.runStmts_cons_live {s : State} {c : Stmt} (cs : List Stmt) (h : (s.runStmt c).live = true) :
    s.runStmts (c :: cs) = (s.runStmt c).runStmts cs := by
  simp [State.runStmts, State.andThen, h]

/-- A statement that ends the operation or stops the block. -/
theorem State.runStmts_cons_ended {s : State} {c : Stmt} (cs : List Stmt) (h : (s.runStmt c).live = false) :
    s.runStmts (c :: cs) = s.runStmt c := by
  simp [State.runStmts, State.andThen, h]

/-! Frames. -/

/-- Taking a result leaves the transport as it answers. -/
@[simp] theorem Env.takeOk_tpSilent (e : Env) : e.takeOk.tpSilent = e.tpSilent := by
  unfold Env.takeOk
  split <;> rfl

/-- Taking a sample leaves the transport as it answers. -/
@[simp] theorem Env.takeBusy_tpSilent (e : Env) : e.takeBusy.tpSilent = e.tpSilent := by
  unfold Env.takeBusy
  split <;> rfl

/-- Taking a turn leaves the transport as it answers. -/
@[simp] theorem Env.takeTurn_tpSilent (e : Env) : e.takeTurn.tpSilent = e.tpSilent := by
  unfold Env.takeTurn
  split <;> rfl

/-- Taking a turn leaves the strap. -/
@[simp] theorem Env.takeTurn_modeSel (e : Env) : e.takeTurn.modeSel = e.modeSel := by
  unfold Env.takeTurn
  split <;> rfl

/-- Nothing sent. -/
theorem Sent.refl (s : State) : Sent s s [] := ⟨by simp, s.env, rfl, by simp⟩

/-- One run of frames after another. -/
theorem Sent.trans {s t u : State} {p q : List Event} (h : Sent s t p) (k : Sent t u q) : Sent s u (p ++ q) := by
  obtain ⟨hp, e, he, rfl⟩ := h
  obtain ⟨hq, f, hf, rfl⟩ := k
  refine ⟨fun ev hv => (List.mem_append.mp hv).elim (hp ev) (hq ev), f, hf.trans he, ?_⟩
  simp

/-- A failure after frames that succeeded. -/
theorem Sent.failed {s t u : State} {p : List Event} (h : Sent s t p) (k : SendFailed t u) : SendFailed s u := by
  obtain ⟨hp, e, -, rfl⟩ := h
  obtain ⟨f, q, dc, l, hq, rfl⟩ := k
  refine ⟨f, p ++ q, dc, l, fun ev hv => (List.mem_append.mp hv).elim (hp ev) (hq ev), ?_⟩
  simp

/-- Frames that succeed leave SEQ as it is. -/
theorem Sent.live {s t : State} {p : List Event} (h : Sent s t p) : t.live = s.live := by
  obtain ⟨-, e, -, rfl⟩ := h
  rfl

/-- Where a frame fails the operation ends or the block stops. -/
theorem SendFailed.not_live {s t : State} (h : SendFailed s t) : t.live = false := by
  obtain ⟨e, pre, dc, l, -, rfl⟩ := h
  cases hs : s.seq with
  | idle => simp [State.abort, State.live, Seq.isIdle]
  | run op h pc => cases op <;> simp [State.abort, State.live, Seq.isIdle, State.respond_eq, State.raiseFault, State.stopped]
  | segment op h pc r =>
    cases op <;> simp [State.abort, State.live, Seq.isIdle, State.respond_eq, State.raiseFault, State.stopped]

/-- What a frame can do. -/
theorem State.sendFrame_cases (s : State) (dc : Select) (l : List Byte) :
    Sent s (s.sendFrame dc l) [.frame dc l true] ∨ SendFailed s (s.sendFrame dc l) := by
  cases h : s.tpResult with
  | true => exact .inl ⟨by simp, s.env.takeOk, by simp, State.sendFrame_ok dc l h⟩
  | false => exact .inr ⟨s.env.takeOk, [], dc, l, by simp, by simpa using State.sendFrame_failed dc l h⟩

/-- What a command can do. -/
theorem State.cmd_cases {s : State} (op : Byte) (l : List Byte) (hl : s.live = true) :
    (∃ pre, Sent s (s.cmd op l) pre) ∨ SendFailed s (s.cmd op l) := by
  cases l with
  | nil => exact (s.sendFrame_cases .command [op]).imp (fun h => ⟨_, h⟩) id
  | cons b bs =>
    rcases s.sendFrame_cases .command [op] with h | h
    · have hl' := h.live.trans hl
      rw [State.cmd, State.sendCmd, State.andThen, if_pos hl']
      exact ((s.sendFrame .command [op]).sendFrame_cases .data (b :: bs)).imp (fun k => ⟨_, h.trans k⟩) h.failed
    · rw [State.cmd_of_not_live _ h.not_live]
      exact .inr h

/-- A panel command of a live SEQ with a transport that answers is a `Cmd` of some opcode and parameters. -/
theorem exec_panel {i : Instr} {s : State} (hi : i.isRequest = false) (hl : s.live = true)
    (ht : s.env.tpSilent = false) : ∃ op l, exec i s = .next (s.cmd op l) := by
  cases i with
  | init => simp [Instr.isRequest] at hi
  | refresh => simp [Instr.isRequest] at hi
  | powerOn => simp [Instr.isRequest] at hi
  | sleep => simp [Instr.isRequest] at hi
  | waitReady => simp [Instr.isRequest] at hi
  | waitDone => simp [Instr.isRequest] at hi
  | reserved0 => simp [Instr.isRequest] at hi
  | reserved7 => simp [Instr.isRequest] at hi
  | reserved8 c => simp [Instr.isRequest] at hi
  | swReset => exact ⟨_, _, State.seqCmd_live _ _ hl ht⟩
  | driverOutputControl => exact ⟨_, _, State.seqCmd_live _ _ hl ht⟩
  | dataEntryMode => exact ⟨_, _, State.seqCmd_live _ _ hl ht⟩
  | ramXRange => exact ⟨_, _, State.seqCmd_live _ _ hl ht⟩
  | ramYRange => exact ⟨_, _, State.seqCmd_live _ _ hl ht⟩
  | borderWaveform => exact ⟨_, _, State.seqCmd_live _ _ hl ht⟩
  | vendorReg => exact ⟨_, _, State.seqCmd_live _ _ hl ht⟩
  | displayUpdateControl2 => exact ⟨_, _, State.seqCmd_live _ _ hl ht⟩
  | masterActivation => exact ⟨_, _, State.seqCmd_live _ _ hl ht⟩
  | ramXCursor => exact ⟨_, _, State.seqCmd_live _ _ hl ht⟩
  | ramYCursor => exact ⟨_, _, State.seqCmd_live _ _ hl ht⟩
  | writeLut => exact ⟨_, _, State.seqCmd_live _ _ hl ht⟩
  | driveControl => exact ⟨_, _, State.seqCmd_live _ _ hl ht⟩
  | gateVoltage => exact ⟨_, _, State.seqCmd_live _ _ hl ht⟩
  | sourceVoltage => exact ⟨_, _, State.seqCmd_live _ _ hl ht⟩
  | vcom => exact ⟨_, _, State.seqCmd_live _ _ hl ht⟩
  | writeRamBw => exact ⟨_, _, State.seqCmd_live _ _ hl ht⟩
  | deepSleep => exact ⟨_, _, State.seqCmd_live _ _ hl ht⟩

/-- What a run of commands at the head of an entry can do: all are sent and the rest of the entry follows, or one fails
and nothing follows. -/
theorem State.runStmts_sends {s : State} (is : List Instr) (rest : List Stmt) (hi : ∀ i ∈ is, i.isRequest = false)
    (hl : s.live = true) (ht : s.env.tpSilent = false) :
    (∃ t pre, Sent s t pre ∧ s.runStmts (sendSeq is ++ rest) = t.runStmts rest) ∨
    SendFailed s (s.runStmts (sendSeq is ++ rest)) := by
  induction is generalizing s with
  | nil => exact .inl ⟨s, [], Sent.refl s, rfl⟩
  | cons i is ih =>
    obtain ⟨op, l, he⟩ := exec_panel (hi i (by simp)) hl ht
    have hr : s.runStmts (sendSeq (i :: is) ++ rest) =
        (s.cmd op l).andThen fun t => t.runStmts (sendSeq is ++ rest) := by
      simp [sendSeq, State.runStmts, State.runStmt, he, answeredState]
    rw [hr, State.andThen]
    rcases State.cmd_cases op l hl with ⟨pre, h⟩ | h
    · rw [if_pos (h.live.trans hl)]
      have ht' : (s.cmd op l).env.tpSilent = false := by
        obtain ⟨-, e, he, hk⟩ := h
        rw [hk]
        exact he.trans ht
      rcases ih (fun j hj => hi j (by simp [hj])) (h.live.trans hl) ht' with ⟨t, q, k, hk⟩ | k
      · exact .inl ⟨t, pre ++ q, h.trans k, hk⟩
      · exact .inr (h.failed k)
    · rw [if_neg (by simp [h.not_live])]
      exact .inr h

/-- What a row can do: it is sent and counted, or its frame fails and it is not. -/
theorem State.sendRow_cases {s : State} (hl : s.live = true) :
    Sent (s.setRow (s.row + 1)) s.sendRow [.frame .data (s.rowFrame s.row) true] ∨ SendFailed s s.sendRow := by
  rcases s.sendFrame_cases .data (s.rowFrame s.row) with h | h
  · rw [State.sendRow, State.andThen, if_pos (h.live.trans hl)]
    obtain ⟨hp, e, he, hk⟩ := h
    exact .inl ⟨hp, e, he, by rw [hk]; rfl⟩
  · rw [State.sendRow, State.andThen, if_neg (by simp [h.not_live])]
    exact .inr h

/-- A busy sample adds its event and takes its level, nothing else. -/
theorem State.sampleBusy_eq (s : State) : s.sampleBusy = { s with
    env := s.env.takeBusy
    trace := s.trace ++ [.busy s.busyInput] } := rfl

/-- One SEQ step from an entry of a table whose transport answers. -/
theorem State.seqStep_run {s : State} {op : Operation} {h pc : Nat} {body : List Stmt} (hs : s.seq = .run op h pc)
    (hb : (stepTable op)[pc]? = some body) : s.seqStep = s.runEntry s body := by
  simp [State.seqStep, hs, hb]

end Sys2Proof.Machine
end

