-- ==== Sys2Proof/Laws/Step.lean ====
section
/-! SUPPORT. What a step can do, by whose turn it is; what the invariant reads; host statuses after an update. -/

namespace Sys2Proof.Machine

/-! Steps. -/

/-- A turn of SEQ in a block that is not stopped. -/
theorem step_seq {s : State} (ht : s.nextTurn = .agent .seq) (hs : s.stopped = false) :
    step s = s.takeTurn.seqStep := by
  have : s.takeTurn.stopped = false := hs
  simp [step, ht, State.runTurn, State.agentStep, this]

/-- A turn of a host agent in a block that is not stopped. -/
theorem step_host {s : State} {h : Nat} (ht : s.nextTurn = .agent (.host h)) (hs : s.stopped = false) :
    step s = s.takeTurn.hostStep h := by
  have : s.takeTurn.stopped = false := hs
  simp [step, ht, State.runTurn, State.agentStep, this]

/-- A turn of any agent in a stopped block. -/
theorem step_stopped {s : State} {a : Agent} (ht : s.nextTurn = .agent a) (hs : s.stopped = true) :
    step s = .fault .stopped := by
  have : s.takeTurn.stopped = true := hs
  simp [step, ht, State.runTurn, State.agentStep, this]

/-- A step that answers a next state was SEQ's, a host agent's, or an event outside the block. -/
theorem step_cases {s t : State} (h : step s = .next t) :
    (s.nextTurn = .agent .seq ∧ s.stopped = false ∧ s.takeTurn.seqStep = .next t) ∨
    (∃ g, s.nextTurn = .agent (.host g) ∧ s.stopped = false ∧ s.takeTurn.hostStep g = .next t) ∨
    (∃ l, s.nextTurn = .blockReset l ∧ t = s.takeTurn.blockReset l) ∨
    (∃ m, s.nextTurn = .strap m ∧ t = s.takeTurn.setEnv { s.takeTurn.env with modeSel := m }) ∨
    (∃ b, s.nextTurn = .transport b ∧ t = s.takeTurn.setEnv { s.takeTurn.env with tpSilent := b }) := by
  cases ht : s.nextTurn with
  | agent a =>
    cases hs : s.stopped with
    | true => rw [step_stopped ht hs] at h; cases h
    | false =>
      cases a with
      | seq => exact .inl ⟨rfl, rfl, step_seq ht hs ▸ h⟩
      | host g => exact .inr (.inl ⟨g, rfl, rfl, step_host ht hs ▸ h⟩)
  | blockReset l => simp only [step, ht, State.runTurn] at h; cases h; exact .inr (.inr (.inl ⟨l, rfl, rfl⟩))
  | strap m => simp only [step, ht, State.runTurn] at h; cases h; exact .inr (.inr (.inr (.inl ⟨m, rfl, rfl⟩)))
  | transport b => simp only [step, ht, State.runTurn] at h; cases h; exact .inr (.inr (.inr (.inr ⟨b, rfl, rfl⟩)))

/-! Host statuses. -/

/-- The status of a host after the update of one host's status. -/
theorem st_modify (l : List HostAgent) (h g : Nat) (st : HostStatus) :
    ((l.modify h (fun r => r.setSt st))[g]?).map HostAgent.st =
      if g = h then (l[g]?).map (fun _ => st) else (l[g]?).map HostAgent.st := by
  rw [List.getElem?_modify]
  by_cases hh : h = g
  · subst hh
    cases l[h]? <;> simp [HostAgent.setSt]
  · cases l[g]? <;> simp [hh, Ne.symm hh]

/-- An update of a host that is not its status leaves every status. -/
theorem map_st_modify (l : List HostAgent) (h : Nat) (f : HostAgent → HostAgent) (hf : ∀ r, (f r).st = r.st) :
    (l.modify h f).map HostAgent.st = l.map HostAgent.st := by
  apply List.ext_getElem?
  intro n
  simp only [List.getElem?_map, List.getElem?_modify]
  split <;> cases l[n]? <;> simp [hf]

/-- Freeing a host that is free changes nothing. -/
theorem modify_free {s : State} {h : Nat} (hf : s.st? h = some .free) :
    s.hosts.modify h (fun r => r.setSt .free) = s.hosts := by
  apply List.ext_getElem?
  intro n
  rw [List.getElem?_modify]
  split
  · subst n
    simp only [State.st?] at hf
    cases hx : s.hosts[h]? with
    | none => simp
    | some r =>
      rw [hx] at hf
      obtain ⟨st, p, x, d⟩ := r
      simp only [Option.map_some, Option.some.injEq] at hf
      subst hf
      rfl
  · simp

/-- Who waits after one more has joined. -/
theorem mem_insertId (h x : Nat) (l : List Nat) : h ∈ insertId x l ↔ h = x ∨ h ∈ l := by
  induction l with
  | nil => simp [insertId]
  | cons a l ih =>
    simp only [insertId]
    split
    · simp
    · split
      · subst a; simp
      · simp [ih]; tauto

/-- Every request word is a host request. -/
theorem decodeRequest_isRequest (w : ReqWord) : (decodeRequest w).isRequest = true := by
  unfold decodeRequest
  repeat' split
  all_goals rfl

end Sys2Proof.Machine

namespace Sys2Proof.Safety

open Sys2Proof.Machine

/-- The part of a state the invariant reads. -/
theorem Invariant.congr {s t : State} (h : Invariant s) (h1 : t.fb = s.fb) (h2 : t.signal = s.signal)
    (h3 : t.row = s.row) (h4 : t.seq = s.seq) (h5 : t.port = s.port) (h6 : t.lbusy = s.lbusy) (h7 : t.mode = s.mode)
    (h8 : t.waiters = s.waiters) (h9 : t.hosts.map HostAgent.st = s.hosts.map HostAgent.st) : Invariant t := by
  have hst : ∀ h, t.st? h = s.st? h := fun h => by simpa [State.st?] using congrArg (fun l => l[h]?) h9
  have hl : t.hosts.length = s.hosts.length := by simpa using congrArg List.length h9
  have hq := h.seq
  unfold SeqInv at hq
  refine ⟨h1 ▸ h.memory, h2 ▸ h.signal, h3 ▸ h.row, ?_, ?_, ?_, h8 ▸ h.rising, ?_, fun hn => ?_⟩
  · unfold SeqInv
    rw [h4, h3, h5, h6, h7]
    simpa only [hst] using hq
  · simpa only [hst, h5] using h.pending
  · simpa only [hst, h8] using h.waiting
  · rw [h7, h6, h8, hl]
    exact h.sync
  · exact h.hosts (List.length_eq_zero_iff.mp (hl.symm.trans (by simp [hn])))

end Sys2Proof.Safety
end

