-- ==== Sys2Proof/Laws/Premises.lean ====
section
/-! SUPPORT. That the premises of Safety.lean say what they are for: an empty turn changes nothing, the premises of
46_mode_mux.md R337 give SEQ its steps, and every run has times (70_reset_and_hazards.md R401). -/

namespace Sys2Proof.Safety

open Sys2Proof.Machine

/-- The turn of an agent that has no step, in a block that is not stopped, is empty (log 2). -/
theorem agentStep_of_not_hasStep {s : State} {a : Agent} (hs : s.stopped = false) (h : ¬ HasStep s a) :
    s.agentStep a = .next s := by
  cases a with
  | seq =>
    simp only [HasStep, StandsBeforeFrame, State.live, seqBody] at h
    cases hq : s.seq with
    | idle => simp [State.agentStep, hs, State.seqStep, hq]
    | run op g pc =>
      simp only [hs, hq, Seq.isIdle, Bool.not_false, Bool.and_self, true_and, not_not] at h
      cases hb : (stepTable op)[pc]? with
      | none => simp [hb] at h
      | some body =>
        rw [hb] at h
        simp [State.agentStep, hs, State.seqStep, hq, hb, State.runEntry, h.2, show body.any Stmt.usesTransport = true from h.1]
    | segment op g pc rest =>
      simp only [hs, hq, Seq.isIdle, Bool.not_false, Bool.and_self, true_and, not_not] at h
      simp [State.agentStep, hs, State.seqStep, hq, State.runEntry, h.2, h.1]
  | host g =>
    simp only [HasStep, hs, true_and, not_exists, not_and] at h
    cases hg : s.hosts[g]? with
    | none => simp [State.agentStep, hs, State.hostStep, hg]
    | some r =>
      have h := h r hg
      cases hst : r.st with
      | free =>
        rw [hst] at h
        cases hp : r.prog with
        | nil => simp [State.agentStep, hs, State.hostStep, hg, hst, hp, State.freeStep]
        | cons x xs =>
          push Not at h
          obtain ⟨w, rfl, hw⟩ := h x xs hp
          simp [State.agentStep, hs, State.hostStep, hg, hst, hp, State.freeStep, Bool.eq_true_of_not_eq_false hw]
      | waitReady b => simp [hst] at h
      | pending i => simp [State.agentStep, hs, State.hostStep, hg, hst]
      | waitDone => simp [State.agentStep, hs, State.hostStep, hg, hst]

/-- While SEQ stands before frames, a transport that answers at last leaves it a step for good. -/
theorem seq_hasStep_for_good {r : Nat → State} {n : Nat} (ht : TransportAnswers r) (h : ∀ k, n ≤ k → StandsBeforeFrame (r k)) :
    ∃ m, n ≤ m ∧ ∀ k, m ≤ k → HasStep (r k) .seq := by
  obtain ⟨m, hm, h' | h'⟩ := ht n
  · exact absurd (h m hm) h'
  · exact ⟨m, hm, fun k hk => ⟨(h k (hm.trans hk)).1, by simp [h' k hk]⟩⟩

/-- `COOP` mode: SEQ does not stand before frames for ever without a step. -/
theorem seq_takes_step_coop {r : Nat → State} {n : Nat} (ht : TransportAnswers r) (hf : SeqScheduled r)
    (h : ∀ k, n ≤ k → (r k).mode = .coop ∧ StandsBeforeFrame (r k)) : ∃ m, n ≤ m ∧ TakesStep (r m) .seq := by
  obtain ⟨m, hm, h'⟩ := seq_hasStep_for_good ht fun k hk => (h k hk).2
  obtain ⟨m', hm', hs⟩ := hf m fun k hk => ⟨(h k (hm.trans hk)).1, h' k hk⟩
  exact ⟨m', hm.trans hm', hs⟩

/-- `SYNC` mode, where SEQ alone has steps while it runs (46_mode_mux.md R333): the same, with no fairness of SEQ. -/
theorem seq_takes_step_alone {r : Nat → State} {n : Nat} (ht : TransportAnswers r) (hf : TurnsNotAllEmpty r)
    (h : ∀ k, n ≤ k → StandsBeforeFrame (r k)) (ha : ∀ k g, n ≤ k → ¬ HasStep (r k) (.host g)) :
    ∃ m, n ≤ m ∧ TakesStep (r m) .seq := by
  obtain ⟨m, hm, h'⟩ := seq_hasStep_for_good ht h
  obtain ⟨m', a, hm', hs⟩ := hf m fun k hk => ⟨_, h' k hk⟩
  cases a with
  | seq => exact ⟨m', hm.trans hm', hs⟩
  | host g => exact absurd hs.2 (ha m' g (hm.trans hm'))

/-- Every run has times, and times that space its activations: the premises shut out no run, only times. -/
theorem timing_exists (r : Nat → State) : ∃ τ, Timing r τ ∧ ActivationsSpaced r τ := by
  let last (n : Nat) : Nat := ((r (n + 1)).trace.getLast?.map eventMs).getD 0
  let τ (n : Nat) : Nat := ∑ k ∈ Finset.range n, (last k + Config.tMinRefreshInterval)
  have le {n m : Nat} (h : n < m) : τ n + (last n + Config.tMinRefreshInterval) ≤ τ m :=
    (Finset.sum_range_succ _ n).symm.le.trans (Finset.sum_le_sum_of_subset (Finset.range_mono h))
  refine ⟨τ, ⟨fun n => (Nat.le_add_right _ _).trans (le n.lt_succ_self), fun a ms n m ⟨_, l, hl⟩ hnm _ _ => ?_⟩,
    fun n m hnm _ _ => (Nat.add_le_add_left (Nat.le_add_left _ _) _).trans (le hnm)⟩
  have hms : last n = ms := by simp [last, hl, eventMs]
  exact hms ▸ (Nat.add_le_add_left (Nat.le_add_right _ _) _).trans (le hnm)

end Sys2Proof.Safety
end

