-- ==== Sys2Proof/Tests/Slice0.lean ====
section
/-! SUPPORT. Tests. Expected results are from 95_test_vectors.md and from the tables of 30_encoding.md; each witness is a
state and operands that meet the hypotheses of the obligation it is named after. -/

namespace Sys2Proof.Tests

open Sys2Proof Sys2Proof.Machine Sys2Proof.Safety

/-! Helpers: small states. -/

/-- Parameters with a short table of known bytes; `full` has one of the right length. -/
def par : Params := ⟨Opcodes.default, [0xA1, 0xA2]⟩
def full : Params := ⟨Opcodes.default, List.replicate 227 0⟩

/-- An environment with turns, BUSY samples and results given. -/
def envOf (m : Mode) (ts : List Turn) (bs os : List Bool) : Env :=
  { Env.idle m with turns := ts, busy := bs, ok := os }

/-- A block just reset, two hosts in `COOP` mode, one in `SYNC`. -/
def block (m : Mode) (ts : List Turn := []) (bs os : List Bool := []) (p q : List HostAction := [])
    (fb : List Host.Cell := []) : State :=
  .launch par (envOf m ts bs os) fb [p, q]

/-- The same block, host 0's request running at `pc` of `op` with the port held. -/
def holding (m : Mode) (op : Operation) (pc : Nat) (bs os : List Bool := []) (row : Nat := 0)
    (fb : List Host.Cell := []) : State :=
  { block m [.agent .seq] bs os [] [] fb with
    seq := .run op 0 pc, port := .held 0, row := row
    hosts := (block m).hosts.set 0 ⟨.pending op.request, [], none, []⟩ }

/-- A background refresh of host 0 at `pc`, host 1 in WAIT_DONE. -/
def background (pc : Nat) (bs os : List Bool := []) (row : Nat := 0) (ts : List Turn := [.agent .seq]) : State :=
  { block .coop ts bs os with
    seq := .run .refreshCoop 0 pc, lbusy := true, row := row, waiters := [1]
    hosts := [⟨.free, [], none, []⟩, ⟨.waitDone, [], none, []⟩] }

/-- The state of an outcome. -/
def out : Result → Option State
  | .next t => some t
  | .fault _ => none
  | .refused _ => none

/-- Does the step refuse, and why? -/
def why : Result → Option Refusal
  | .next _ => none
  | .fault _ => none
  | .refused r => some r

/-- Where the status is `Pending`, host `h` holds the port. -/
def heldBy (p : Port) (h : Nat) : Option HostStatus → Bool
  | some (.pending _) => decide (p = .held h)
  | some .free | some (.waitReady _) | some .waitDone | none => true

/-- The invariant from checks that can be evaluated. -/
theorem invariant_of {s : State} (hm : Memory.wf s.fb) (hg : s.signal = false) (hr : s.row ≤ 200) (hq : SeqInv s)
    (hp : ∀ h < s.hosts.length, heldBy s.port h (s.st? h) = true)
    (hw : ∀ h < s.hosts.length, h ∈ s.waiters ↔ s.st? h = some .waitDone) (hb : ∀ h ∈ s.waiters, h < s.hosts.length)
    (ho : s.waiters.Pairwise (· < ·)) (hs : s.mode = .sync → s.lbusy = false ∧ s.waiters = [] ∧ s.hosts.length = 1)
    (hn : s.hosts ≠ []) : Invariant s := by
  have hlt : ∀ h x, s.st? h = some x → h < s.hosts.length := by
    intro h x hx
    by_contra hc
    simp [State.st?, List.getElem?_eq_none (Nat.le_of_not_lt hc)] at hx
  refine ⟨hm, hg, hr, hq, fun h i hx => ?_, fun h => ⟨fun hh => (hw h (hb h hh)).mp hh, fun hx => ?_⟩, ho, hs, hn⟩
  · have := hp h (hlt h _ hx)
    rw [hx] at this
    exact of_decide_eq_true this
  · exact (hw h (hlt h _ hx)).mpr hx

/-! What is ill formed is refused: one term for each check of WellFormed.lean. -/

theorem test_wf_reserved8 : (Instr.reserved8 0x1).wf = false ∧ (Instr.reserved8 0x8).wf = true := by decide
theorem test_wf_command_frame : (Code.frame ⟨.command, [0x22, 0xC7]⟩).wf = false ∧
    (Code.frame ⟨.command, []⟩).wf = false ∧ (Code.frame ⟨.command, [0x22]⟩).wf = true := by decide
theorem test_wf_data_frame : (Code.frame ⟨.data, []⟩).wf = false ∧ (Code.frame ⟨.data, [0xC7]⟩).wf = true := by decide
theorem test_wf_opcodes : ¬ { Opcodes.default with vcom := 0x22 }.Distinct ∧ Opcodes.default.Distinct := by decide
theorem test_wf_lut : ¬ par.wf ∧ full.wf := ⟨by decide, by decide, List.length_replicate⟩
theorem test_wf_write : (HostAction.write 5000 0).wf = false ∧ (HostAction.write 4999 0).wf = true := by decide
theorem test_wf_read : (HostAction.read 4999 2).wf = false ∧ (HostAction.read 4999 1).wf = true := by decide

/-! Decoding: the words of 30_encoding.md R101 and R107, and the opcodes of R104 with the defaults of 93 G2. -/

theorem test_decode_requests :
    decodeRequest 0b0001 = .init ∧ decodeRequest 0b0010 = .refresh ∧ decodeRequest 0b0011 = .powerOn ∧
    decodeRequest 0b0100 = .sleep ∧ decodeRequest 0b0101 = .waitReady ∧ decodeRequest 0b0110 = .waitDone ∧
    decodeRequest 0b0000 = .reserved0 ∧ decodeRequest 0b0111 = .reserved7 ∧
    decodeRequest 0b1000 = .reserved8 0b1000 ∧ decodeRequest 0b1111 = .reserved8 0b1111 := by decide

theorem test_decode_init_commands :
    decodeOpcode .default 0b00010010 = .ok .swReset ∧ decodeOpcode .default 0b00000001 = .ok .driverOutputControl ∧
    decodeOpcode .default 0b00010001 = .ok .dataEntryMode ∧ decodeOpcode .default 0b01000100 = .ok .ramXRange ∧
    decodeOpcode .default 0b01000101 = .ok .ramYRange ∧ decodeOpcode .default 0b00111100 = .ok .borderWaveform ∧
    decodeOpcode .default 0b00011000 = .ok .vendorReg ∧ decodeOpcode .default 0b01001110 = .ok .ramXCursor ∧
    decodeOpcode .default 0b01001111 = .ok .ramYCursor := by decide

theorem test_decode_other_commands :
    decodeOpcode .default 0b00100010 = .ok .displayUpdateControl2 ∧
    decodeOpcode .default 0b00100000 = .ok .masterActivation ∧ decodeOpcode .default 0b00110010 = .ok .writeLut ∧
    decodeOpcode .default 0b00111111 = .ok .driveControl ∧ decodeOpcode .default 0b00000011 = .ok .gateVoltage ∧
    decodeOpcode .default 0b00000100 = .ok .sourceVoltage ∧ decodeOpcode .default 0b00101100 = .ok .vcom ∧
    decodeOpcode .default 0b00100100 = .ok .writeRamBw ∧ decodeOpcode .default 0b00010000 = .ok .deepSleep := by decide

/-- The numerals 0x22 and 0x20 are no commands in a data frame (91 N5). -/
theorem test_decode_data : decode .default (.frame ⟨.data, [0x22]⟩) = .error .dataFrame ∧
    decode .default (.frame ⟨.command, [0xFF]⟩) = .error .notEmitted ∧
    decode .default (.frame ⟨.command, [0x22, 0xC7]⟩) = .error .malformedFrame := by decide

theorem test_table_words : decodeTableWord 8 0x6 = some .waitDone ∧ decodeTableWord 4 0x9 = some (.reserved8 0x9) ∧
    decodeTableWord 8 0x24 = some .writeRamBw ∧ decodeTableWord 8 0xFF = none := by decide

/-- A trace read back as commands: `NAME(b0)` is one, a command without parameters is one (R106). -/
theorem test_read_frames :
    readFrames [⟨.command, [0x22]⟩, ⟨.data, [0xC7]⟩, ⟨.command, [0x20]⟩] =
      some ([], [⟨0x22, [[0xC7]]⟩, ⟨0x20, []⟩]) := by decide

/-! Host requests. -/

/-- 95_test_vectors.md 3.2 step 1. -/
theorem test_init : (out (exec .init (block .coop))).map (fun t => (t.port, t.seq, t.trace)) =
    some (.held 0, .run .init 0 0, []) := by decide
/-- Vector I8. -/
theorem test_init_conflict : (out (exec .init (background 0))).map (fun t => (t.faultBc, t.trace, t.stopped)) =
    some (true, [.fault .busConflict], true) := by decide
/-- Vector F4, the issue step. -/
theorem test_refresh_sync : (out (exec .refresh (block .sync))).map (fun t => (t.panel, t.lbusy, t.seq, t.trace)) =
    some (.undefined, false, .run .refreshSync 0 0, []) := by decide
/-- Vectors F5 and F6. -/
theorem test_refresh_coop : (out (exec .refresh (block .coop))).map (fun t => (t.lbusy, t.port, t.seq, t.trace)) =
      some (true, .free, .run .refreshCoop 0 0, [.resp 0 .ok]) ∧
    out (exec .refresh (background 0)) = some { background 0 with trace := [.resp 0 .busy] } := by decide
theorem test_power_on : (out (exec .powerOn (block .sync))).map (fun t => (t.port, t.seq, t.panel)) =
    some (.held 0, .run .powerOn 0 0, .undefined) := by decide
/-- Vector X6. -/
theorem test_power_on_conflict : (out (exec .powerOn (background 0))).map (fun t => (t.faultBc, t.lbusy)) =
    some (true, true) := by decide
theorem test_sleep : (out (exec .sleep (block .sync))).map (fun t => (t.port, t.seq, t.panel)) =
    some (.held 0, .run .sleep 0 0, .unconfigured) := by decide
/-- Vector O5. -/
theorem test_sleep_conflict : (out (exec .sleep (background 0))).map (fun t => t.trace) =
    some [.fault .busConflict] := by decide
/-- Vectors W3 and W4, the issue step. -/
theorem test_wait_ready : (out (exec .waitReady (block .coop))).map (fun t => t.st? 0) = some (some (.waitReady true)) ∧
    (out (exec .waitReady (block .sync))).map (fun t => t.st? 0) = some (some (.waitReady false)) := by decide
/-- Vectors X9 and X7. -/
theorem test_wait_done : (out (exec .waitDone (block .sync))).map (fun t => t.trace) = some [.resp 0 .illegal] ∧
    (out (exec .waitDone (background 0))).map (fun t => (t.waiters, t.st? 0)) = some ([0, 1], some .waitDone) := by decide
/-- Vectors X1, X2 and X3: answered at once, the port stays with its holder. -/
theorem test_reserved : (out (exec .reserved0 (block .sync))).map (fun t => t.trace) = some [.resp 0 .illegal] ∧
    (out (exec .reserved7 (block .sync))).map (fun t => t.trace) = some [.resp 0 .illegal] ∧
    (out (exec (.reserved8 0x9) { holding .coop .init 3 with issuer := 1 })).map (fun t => (t.trace, t.port)) =
      some ([.resp 1 .illegal], .held 0) := by decide

/-! Panel commands: the frames of 95_test_vectors.md 2.2, 2.3 and 2.6, every result true. -/

/-- The frames a panel command sends in a running operation. -/
def sent (i : Instr) (op : Operation) : Option (List Event) :=
  (out (exec i (holding .sync op 0 [] [true, true]))).map fun t => t.trace

theorem test_sw_reset : sent .swReset .init = some [.frame .command [0x12] true] := by decide
theorem test_driver_output_control : sent .driverOutputControl .init =
    some [.frame .command [0x01] true, .frame .data [0xC7, 0x00, 0x01] true] := by decide
theorem test_data_entry_mode : sent .dataEntryMode .init =
    some [.frame .command [0x11] true, .frame .data [0x01] true] := by decide
theorem test_ram_x_range : sent .ramXRange .init =
    some [.frame .command [0x44] true, .frame .data [0, 24] true] := by decide
theorem test_ram_y_range : sent .ramYRange .init =
    some [.frame .command [0x45] true, .frame .data [199, 0, 0, 0] true] := by decide
theorem test_border_waveform : sent .borderWaveform .init =
    some [.frame .command [0x3C] true, .frame .data [0x01] true] := by decide
theorem test_vendor_reg : sent .vendorReg .init =
    some [.frame .command [0x18] true, .frame .data [0x80] true] := by decide
theorem test_display_update_control_2 :
    sent .displayUpdateControl2 .init = some [.frame .command [0x22] true, .frame .data [0xB1] true] ∧
    sent .displayUpdateControl2 .powerOn = some [.frame .command [0x22] true, .frame .data [0xC7] true] := by decide
theorem test_master_activation : sent .masterActivation .powerOn = some [.frame .command [0x20] true] := by decide
theorem test_ram_x_cursor : sent .ramXCursor .init =
    some [.frame .command [0x4E] true, .frame .data [0x00] true] := by decide
theorem test_ram_y_cursor : sent .ramYCursor .init =
    some [.frame .command [0x4F] true, .frame .data [199, 0] true] := by decide
theorem test_write_lut : sent .writeLut .init =
    some [.frame .command [0x32] true, .frame .data [0xA1, 0xA2] true] := by decide
theorem test_drive_control : sent .driveControl .init =
    some [.frame .command [0x3F] true, .frame .data [0x22] true] := by decide
theorem test_gate_voltage : sent .gateVoltage .init =
    some [.frame .command [0x03] true, .frame .data [0x17] true] := by decide
theorem test_source_voltage : sent .sourceVoltage .init =
    some [.frame .command [0x04] true, .frame .data [0x41, 0x00, 0x32] true] := by decide
theorem test_vcom : sent .vcom .init = some [.frame .command [0x2C] true, .frame .data [0x20] true] := by decide
theorem test_write_ram_bw : sent .writeRamBw .refreshSync = some [.frame .command [0x24] true] := by decide
theorem test_deep_sleep : sent .deepSleep .sleep =
    some [.frame .command [0x10] true, .frame .data [0x01] true] := by decide
/-- Vectors B4 and O4: no data frame after a failed command frame. -/
theorem test_deep_sleep_fails : (out (exec .deepSleep (holding .sync .sleep 0 [] [false]))).map
    (fun t => (t.trace, t.panel, t.seq, t.port)) =
    some ([.frame .command [0x10] false, .resp 0 .transportError], .undefined, .idle, .free) := by decide
/-- Vectors B5 and O2. -/
theorem test_update_control_fails : (out (exec .displayUpdateControl2 (holding .sync .powerOn 0 [] [true, false]))).map
    (fun t => (t.trace, t.panel)) =
    some ([.frame .command [0x22] true, .frame .data [0xC7] false, .resp 0 .transportError], .undefined) := by decide

/-! Single steps. -/

/-- Vectors W1 and W2, one step each. -/
theorem test_poll : (out (step (holding .sync .init 3 [true]))).map (fun t => (t.trace, t.seq)) =
      some ([.busy true, .delay 100], .run .init 0 3) ∧
    (out (step (holding .sync .init 3 [false]))).map (fun t => (t.trace, t.seq)) =
      some ([.busy false], .run .init 0 4) := by decide
/-- The pulse, entry 1 (R182). -/
theorem test_pulse : (out (step (holding .sync .init 1))).map (fun t => (t.rst, t.trace, t.seq)) =
    some (false, [.rst false, .delay 200], .run .init 0 2) := by decide
/-- Pixels (8, 0) and (199, 199) of 95_test_vectors.md 2.5: offset 1 bit 7, offset 4999 bit 0. -/
theorem test_pixels : pixelOffset 8 0 = 1 ∧ pixelBit 8 = 7 ∧ pixelOffset 199 199 = 4999 ∧ pixelBit 199 = 0 := by decide
/-- The inversions of 95_test_vectors.md 2.5, as one row. -/
theorem test_row : ((holding .sync .refreshSync 2 [] [] 1
      [(25, 0xFF), (26, 0x80), (27, 0x01), (28, 0x0F), (29, 0xA5), (30, 0x3C)]).rowFrame 1).take 7 =
    [0x00, 0x7F, 0xFE, 0xF0, 0x5A, 0xC3, 0xFF] := by decide
/-- Vector F8: row 100's frame fails in the background. -/
theorem test_background_failure : (out (step (background 1 [] [false] 100))).map
    (fun t => (t.faultTp, t.lbusy, t.row, t.waiters)) = some (true, true, 100, [1]) := by decide
/-- Vector F7 step 203 and W7: the completion step. -/
theorem test_completion : (out (step (background 3 [false] [] 200))).map
    (fun t => (t.trace, t.lbusy, t.seq, t.waiters)) =
    some ([.busy false, .resp 1 .ok, .done], false, .idle, []) := by decide
/-- Vectors S1 to S4 and S5 to S8. -/
theorem test_status : (block .sync).statusWord false = 0x01 ∧ (block .sync).statusWord true = 0x04 ∧
    (block .coop).statusWord false = 0x09 ∧ (block .coop).statusWord true = 0x0C ∧
    (background 1).statusWord false = 0x1A ∧ (background 1).statusWord true = 0x1E ∧
    (holding .coop .init 1).statusWord true = 0x1C ∧ (holding .coop .init 1).statusWord false = 0x19 := by decide
/-- Vector X4: no step behind a held port; the line stays in the program. -/
theorem test_held : out (step { holding .coop .init 1 with
      env := envOf .coop [.agent (.host 1)] [] []
      hosts := [⟨.pending .init, [], none, []⟩, ⟨.free, [.request 0x2], none, []⟩] }) =
    some { holding .coop .init 1 with
      env := envOf .coop [] [] []
      hosts := [⟨.pending .init, [], none, []⟩, ⟨.free, [.request 0x2], none, []⟩] } := by decide
/-- Vector Z1: a block reset with the strap at `COOP`. -/
theorem test_block_reset : (out (step { holding .sync .init 5 with
      env := envOf .coop [.blockReset ⟨[[], []], [(3, 7), (5000, 1)]⟩] [] [] })).map
    (fun t => (t.mode, t.trace, t.fb, t.statusWord false)) = some (.coop, [], [(3, 7)], 0x09) := by decide

/-! Witnesses. -/

/-- Host 0 free in `COOP` mode, its turn, with the program given. -/
def turn0 (p : List HostAction) (bs : List Bool := []) (fb : List Host.Cell := []) : State :=
  block .coop [.agent (.host 0)] bs [] p [] fb

/-- Host 0 in the state `st`, its turn. -/
def waiting0 (st : HostStatus) (lb : Bool) (bs : List Bool) : State :=
  { block .coop [.agent (.host 0)] bs with lbusy := lb, hosts := [⟨st, [], none, []⟩, ⟨.free, [], none, []⟩] }

theorem witness_DecodeOfEncode : Opcodes.default.Distinct ∧ (Instr.reserved8 0xF).wf = true ∧
    Instr.vcom.wf = true := by decide
theorem witness_EncodeOfDecode : decode .default (.request 0x8) = .ok (.reserved8 0x8) ∧
    decode .default (.frame ⟨.command, [0x2C]⟩) = .ok .vcom := by decide
theorem witness_NonCommandsRejectedByName : (0xFF : Byte) ∉ Opcodes.default.all ∧ ([] : List Byte).length ≠ 1 ∧
    ([0x22, 0xC7] : List Byte).length ≠ 1 := by decide
theorem witness_BlockResetValues : (block .coop [.blockReset ⟨[], []⟩]).nextTurn = .blockReset ⟨[], []⟩ := by decide

theorem invariant_pulse : Invariant (holding .coop .init 1) :=
  invariant_of (by decide) (by decide) (by decide) ⟨by decide, by decide, by decide, trivial⟩ (by decide) (by decide)
    (by decide) (by decide) (by decide) (by decide)
theorem invariant_first : Invariant (holding .coop .init 0) :=
  invariant_of (by decide) (by decide) (by decide) ⟨by decide, by decide, by decide, trivial⟩ (by decide) (by decide)
    (by decide) (by decide) (by decide) (by decide)
theorem invariant_rise : Invariant (turn0 [.request 0x2]) :=
  invariant_of (by decide) (by decide) (by decide) ⟨rfl, rfl⟩ (by decide) (by decide) (by decide) (by decide)
    (by decide) (by decide)
theorem invariant_fall : Invariant (background 3 [false] [] 200) :=
  invariant_of (by decide) (by decide) (by decide)
    ⟨by decide, by decide, by decide, by decide, by decide, by decide⟩ (by decide) (by decide) (by decide) (by decide)
    (by decide) (by decide)

theorem witness_StepKeepsInvariant : Invariant (holding .coop .init 1) ∧
    ∃ t, step (holding .coop .init 1) = .next t := ⟨invariant_pulse, _, rfl⟩
theorem witness_ModeFixedUntilReset : (block .coop [.strap .sync]).nextTurn = .strap .sync ∧
    (∃ t, step (block .coop [.strap .sync]) = .next t) ∧ NoReset (block .coop [.strap .sync]) :=
  ⟨rfl, ⟨_, rfl⟩, fun _ h => (nomatch h)⟩
theorem witness_ParametersAndHostCountFixed : (∃ t, step (holding .coop .init 1) = .next t) ∧
    NoReset (holding .coop .init 1) := ⟨⟨_, rfl⟩, fun _ h => (nomatch h)⟩

/-- A stopped block whose next turn is `t`. -/
def stoppedBlock (t : Turn) : State := { background 1 [] [] 3 [t] with faultTp := true }

theorem witness_StoppedBlockIsFinal : (stoppedBlock (.agent .seq)).stopped = true ∧
    (stoppedBlock (.agent .seq)).nextTurn = .agent .seq ∧
    ((stoppedBlock (.strap .sync)).stopped = true ∧ (∃ t, step (stoppedBlock (.strap .sync)) = .next t) ∧
      NoReset (stoppedBlock (.strap .sync))) ∧
    (stoppedBlock (.blockReset ⟨[], []⟩)).stopped = true ∧
    (stoppedBlock (.blockReset ⟨[], []⟩)).nextTurn = .blockReset ⟨[], []⟩ :=
  ⟨rfl, rfl, ⟨rfl, ⟨_, rfl⟩, fun _ h => (nomatch h)⟩, rfl, rfl⟩
theorem witness_FramebufferWrittenByHostsOnly : (∃ t, step (turn0 [.write 4999 1]) = .next t) ∧
    NoReset (turn0 [.write 4999 1]) := ⟨⟨_, rfl⟩, fun _ h => (nomatch h)⟩
theorem witness_TraceOnlyGrows : (∃ t, step (holding .coop .init 1) = .next t) ∧
    NoReset (holding .coop .init 1) := ⟨⟨_, rfl⟩, fun _ h => (nomatch h)⟩
/-- The level falls at entry 1; at entry 0 it is driven to the level it has. -/
theorem witness_RstDrivenByInitOnly :
    (Invariant (holding .coop .init 1) ∧ NoReset (holding .coop .init 1) ∧
      ∃ t, step (holding .coop .init 1) = .next t ∧ t.rst ≠ (holding .coop .init 1).rst) ∧
    (Invariant (holding .coop .init 0) ∧ NoReset (holding .coop .init 0) ∧
      ∃ t, step (holding .coop .init 0) = .next t ∧ t.rst = (holding .coop .init 0).rst ∧
        ∃ v, Event.rst v ∈ t.trace.drop (holding .coop .init 0).trace.length) :=
  ⟨⟨invariant_pulse, fun _ h => (nomatch h), _, rfl, by decide⟩,
    ⟨invariant_first, fun _ h => (nomatch h), _, rfl, rfl, true, by decide⟩⟩
theorem witness_BusyFlagLifecycle :
    (Invariant (turn0 [.request 0x2]) ∧ NoReset (turn0 [.request 0x2]) ∧ (turn0 [.request 0x2]).lbusy = false ∧
      ∃ t, step (turn0 [.request 0x2]) = .next t ∧ t.lbusy = true) ∧
    (Invariant (background 3 [false] [] 200) ∧ NoReset (background 3 [false] [] 200) ∧
      (background 3 [false] [] 200).lbusy = true ∧
      ∃ t, step (background 3 [false] [] 200) = .next t ∧ t.lbusy = false) :=
  ⟨⟨invariant_rise, fun _ h => (nomatch h), rfl, _, rfl, rfl⟩, invariant_fall, fun _ h => (nomatch h), rfl, _, rfl, rfl⟩
theorem witness_SeqActiveIffHeldOrFlag : Invariant (background 3 [false] [] 200) ∧
    ∃ t, step (background 3 [false] [] 200) = .next t := ⟨invariant_fall, _, rfl⟩
theorem witness_HostStepLeavesOthers : (turn0 [.request 0x1]).nextTurn = .agent (.host 0) ∧
    ∃ t, step (turn0 [.request 0x1]) = .next t := ⟨rfl, _, rfl⟩
theorem witness_SeqStepFrame : Invariant (holding .coop .init 1) ∧ (holding .coop .init 1).nextTurn = .agent .seq ∧
    ∃ t, step (holding .coop .init 1) = .next t := ⟨invariant_pulse, rfl, _, rfl⟩

theorem witness_InitStarts : (block .coop).stopped = false ∧ (block .coop).st? (block .coop).issuer = some .free ∧
    (block .coop).port = .free ∧ ¬ ((block .coop).mode = .coop ∧ (block .coop).lbusy = true) := by decide
theorem witness_RefreshSyncStarts : (block .sync).stopped = false ∧
    (block .sync).st? (block .sync).issuer = some .free ∧ (block .sync).port = .free ∧
    (block .sync).mode = .sync := by decide
theorem witness_RefreshCoopRule :
    ((background 0).stopped = false ∧ (background 0).st? (background 0).issuer = some .free ∧
      (background 0).port = .free ∧ (background 0).mode = .coop ∧ (background 0).lbusy = true) ∧
    ((block .coop).stopped = false ∧ (block .coop).st? (block .coop).issuer = some .free ∧
      (block .coop).port = .free ∧ (block .coop).mode = .coop ∧ (block .coop).lbusy = false) := by decide
theorem witness_PowerOnAndSleepStart : (block .coop).stopped = false ∧
    (block .coop).st? (block .coop).issuer = some .free ∧ (block .coop).port = .free ∧
    ¬ ((block .coop).mode = .coop ∧ (block .coop).lbusy = true) := by decide
theorem witness_BusConflictStopsBlock : Instr.sleep ∈ [Instr.init, .powerOn, .sleep] ∧
    (background 0).stopped = false ∧ (background 0).st? (background 0).issuer = some .free ∧
    (background 0).mode = .coop ∧ (background 0).port = .free ∧ (background 0).lbusy = true := by decide

/-- Host 1 issues REFRESH while host 0's INIT holds the port. -/
def heldIssue : State :=
  { holding .coop .init 3 with
    env := envOf .coop [.agent (.host 1)] [] []
    hosts := [⟨.pending .init, [], none, []⟩, ⟨.free, [.request 0x4], none, []⟩] }

theorem witness_HeldPortHoldsIssue :
    (heldIssue.stopped = false ∧ heldIssue.nextTurn = .agent (.host 1) ∧
      heldIssue.hosts[1]? = some ⟨.free, [.request 0x4], none, []⟩ ∧ (0x4 : ReqWord) ∈ [0x1, 0x2, 0x3, 0x4] ∧
      heldIssue.port = .held 0) ∧
    Instr.refresh ∈ [Instr.init, .refresh, .powerOn, .sleep] ∧
    ((heldIssue.withTurn (.agent (.host 0))).stopped = false ∧
      (heldIssue.withTurn (.agent (.host 0))).nextTurn = .agent (.host 0) ∧
      (heldIssue.withTurn (.agent (.host 0))).st? 0 = some (.pending .init)) := by decide
theorem witness_WaitReadyStarts : (background 0).stopped = false ∧
    (background 0).st? (background 0).issuer = some .free := by decide
theorem witness_WaitDoneRule :
    ((background 0).stopped = false ∧ (background 0).st? (background 0).issuer = some .free ∧
      (background 0).mode = .coop) ∧
    ((block .sync).stopped = false ∧ (block .sync).st? (block .sync).issuer = some .free ∧
      (block .sync).mode = .sync) := by decide
theorem witness_IllegalRequestAnswered :
    (Instr.reserved8 0xF ∈ [Instr.reserved0, .reserved7, .reserved8 0xF] ∧
      { heldIssue with issuer := 1 }.stopped = false ∧ { heldIssue with issuer := 1 }.st? 1 = some .free) ∧
    ((block .sync).mode = .sync ∧ (block .sync).stopped = false ∧
      (block .sync).st? (block .sync).issuer = some .free) := by decide
theorem witness_RequestFrame : Instr.init.isRequest = true ∧ Instr.refresh.isRequest = true ∧
    Instr.waitDone.isRequest = true ∧ Instr.reserved0.isRequest = true ∧
    (∃ t, exec .init (block .coop) = .next t) ∧ (∃ t, exec .refresh (block .coop) = .next t) ∧
    (∃ t, exec .waitDone (block .coop) = .next t) ∧ ∃ t, exec .reserved0 (block .coop) = .next t :=
  ⟨rfl, rfl, rfl, rfl, ⟨_, rfl⟩, ⟨_, rfl⟩, ⟨_, rfl⟩, _, rfl⟩

/-- A panel command's state with success for two frames. -/
def sending (op : Operation) : State := holding .sync op 0 [] [true, true]

theorem witness_InitCommandsSend : (Instr.ramYCursor, (0x4F : Byte), [(0xC7 : Byte), 0x00]) ∈ initCommandBytes par ∧
    (sending .init).stopped = false ∧ (sending .init).seq = .run .init 0 0 ∧ (sending .init).env.tpSilent = false ∧
    FramesSucceed (cmdTrace 0x4F [0xC7, 0x00]).length (sending .init) :=
  ⟨by decide, rfl, rfl, rfl, rfl, rfl, trivial⟩
theorem witness_WaveformCommandsSend : (Instr.writeLut, (0x32 : Byte), par.lut) ∈ waveformCommandBytes par ∧
    (sending .init).stopped = false ∧ (sending .init).seq = .run .init 0 0 ∧ (sending .init).env.tpSilent = false ∧
    FramesSucceed (cmdTrace 0x32 par.lut).length (sending .init) :=
  ⟨by decide, rfl, rfl, rfl, rfl, rfl, trivial⟩
theorem witness_RefreshAndPowerCommandsSend :
    (Instr.masterActivation, (0x20 : Byte), ([] : List Byte)) ∈ refreshPowerCommandBytes par ∧
    (sending .powerOn).stopped = false ∧ (sending .powerOn).seq = .run .powerOn 0 0 ∧ Operation.powerOn ≠ .init ∧
    (sending .powerOn).env.tpSilent = false ∧ FramesSucceed (cmdTrace 0x20 []).length (sending .powerOn) :=
  ⟨by decide, rfl, rfl, by decide, rfl, rfl, trivial⟩
theorem witness_FailedFrameAbortsOperation : encode par.ops .deepSleep = .frame ⟨.command, [0x10]⟩ ∧
    (holding .sync .sleep 0 [] [false]).stopped = false ∧
    (holding .sync .sleep 0 [] [false]).seq = .run .sleep 0 0 ∧ Operation.sleep ≠ .refreshCoop ∧
    (holding .sync .sleep 0 [] [false]).port = .held 0 ∧ (holding .sync .sleep 0 [] [false]).env.tpSilent = false ∧
    (holding .sync .sleep 0 [] [false]).tpResult = false := by decide
theorem witness_FailedDataFrameAborts : (Instr.deepSleep, (0x10 : Byte), [(0x01 : Byte)]) ∈ commandBytes par .sleep ∧
    ([0x01] : List Byte) ≠ [] ∧ (holding .sync .sleep 0 [] [true, false]).stopped = false ∧
    (holding .sync .sleep 0 [] [true, false]).seq = .run .sleep 0 0 ∧ Operation.sleep ≠ .refreshCoop ∧
    (holding .sync .sleep 0 [] [true, false]).port = .held 0 ∧
    (holding .sync .sleep 0 [] [true, false]).env.tpSilent = false ∧
    (holding .sync .sleep 0 [] [true, false]).tpResult = true ∧
    ((holding .sync .sleep 0 [] [true, false]).setEnv
      (holding .sync .sleep 0 [] [true, false]).env.takeOk).tpResult = false := by decide
theorem witness_BackgroundFailureStopsBlock :
    (encode par.ops .writeRamBw = .frame ⟨.command, [0x24]⟩ ∧ (background 0 [] [false]).stopped = false ∧
      (background 0 [] [false]).seq = .run .refreshCoop 0 0 ∧ (background 0 [] [false]).env.tpSilent = false ∧
      (background 0 [] [false]).tpResult = false) ∧
    ((background 2 [] [true, false] 200).nextTurn = .agent .seq ∧
      (background 2 [] [true, false] 200).seq = .run .refreshCoop 0 2 ∧
      ∃ t, step (background 2 [] [true, false] 200) = .next t ∧
        ∃ dc l, Event.frame dc l false ∈ t.trace.drop (background 2 [] [true, false] 200).trace.length) :=
  ⟨by decide, rfl, rfl, _, rfl, .data, [0xC7], by decide⟩
theorem witness_PanelCommandFrame : Instr.vcom.isRequest = false ∧ ∃ t, exec .vcom (sending .init) = .next t :=
  ⟨rfl, _, rfl⟩
theorem witness_PanelCommandWithoutStep :
    (Instr.vcom.isRequest = false ∧ (block .sync).stopped = false ∧ (block .sync).seq = .idle) ∧
    { sending .init with env := { (sending .init).env with tpSilent := true } }.stopped = false := by decide
theorem witness_RefusedAccesses : 4975 + 25 ≤ 5000 ∧ 5000 < 4975 + 26 ∧
    ((turn0 [.write 5000 1]).stopped = false ∧ (turn0 [.write 5000 1]).nextTurn = .agent (.host 0) ∧
      (turn0 [.write 5000 1]).hosts[0]? = some ⟨.free, [.write 5000 1], none, []⟩ ∧ 5000 ≤ 5000) ∧
    ((turn0 [.read 4999 2]).stopped = false ∧ (turn0 [.read 4999 2]).nextTurn = .agent (.host 0) ∧
      (turn0 [.read 4999 2]).hosts[0]? = some ⟨.free, [.read 4999 2], none, []⟩ ∧ 5000 < 4999 + 2) := by decide

theorem witness_PollPinRule : (Operation.init, 7) ∈ [(Operation.init, 3), (.init, 5), (.init, 7), (.refreshSync, 0),
      (.refreshSync, 4), (.powerOn, 1)] ∧
    ((holding .sync .init 7 [true]).stopped = false ∧ (holding .sync .init 7 [true]).nextTurn = .agent .seq ∧
      (holding .sync .init 7 [true]).seq = .run .init 0 7 ∧
      (holding .sync .init 7 [true]).takeTurn.busyInput = true) ∧
    ((holding .sync .init 7 [false]).stopped = false ∧
      (holding .sync .init 7 [false]).takeTurn.busyInput = false) := by decide

/-- A holding operation with `n` turns of SEQ, the samples and `m` successes given. -/
def running (op : Operation) (n m : Nat) (bs : List Bool) (pc : Nat := 0) : State :=
  { holding .sync op pc with env := envOf .sync (List.replicate n (.agent .seq)) bs (List.replicate m true) }

theorem witness_PollRepeatsUntilReady : (running .init 2 0 [true, false] 3).stopped = false ∧
    (running .init 2 0 [true, false] 3).seq = .run .init 0 3 ∧
    (running .init 2 0 [true, false] 3).env.turns = List.replicate (1 + 1) (.agent .seq) ++ [] ∧
    (running .init 2 0 [true, false] 3).env.busy = List.replicate 1 true ++ false :: [] := by decide
theorem witness_InitRunTrace : (running .init 10 30 [false, false, false]).cfg.lut ≠ [] ∧
    (running .init 10 30 [false, false, false]).stopped = false ∧
    (running .init 10 30 [false, false, false]).seq = .run .init 0 0 ∧
    (running .init 10 30 [false, false, false]).port = .held 0 ∧
    (running .init 10 30 [false, false, false]).env.tpSilent = false ∧
    (running .init 10 30 [false, false, false]).env.turns = List.replicate 10 (.agent .seq) ++ [] ∧
    (running .init 10 30 [false, false, false]).env.busy = [false, false, false] ++ [] ∧
    (running .init 10 30 [false, false, false]).env.ok = List.replicate 30 true ++ [] := by
  simp [running, holding, block, State.launch, State.stopped, par, envOf, Env.idle]
theorem witness_RefreshSyncRunTrace : (running .refreshSync 206 204 [false, true, false]).stopped = false ∧
    (running .refreshSync 206 204 [false, true, false]).seq = .run .refreshSync 0 0 ∧
    (running .refreshSync 206 204 [false, true, false]).row = 0 ∧
    (running .refreshSync 206 204 [false, true, false]).port = .held 0 ∧
    (running .refreshSync 206 204 [false, true, false]).env.tpSilent = false ∧
    (running .refreshSync 206 204 [false, true, false]).env.turns = List.replicate (205 + 1) (.agent .seq) ++ [] ∧
    (running .refreshSync 206 204 [false, true, false]).env.busy = false :: (List.replicate 1 true ++ false :: []) ∧
    (running .refreshSync 206 204 [false, true, false]).env.ok = List.replicate 204 true ++ [] := by
  simp [running, holding, block, State.launch, State.stopped, envOf, Env.idle]

/-- A background refresh before its first row, the turns SEQ's. -/
def streaming : State :=
  { background 0 with env := envOf .coop (List.replicate 203 (.agent .seq)) [true, false] (List.replicate 204 true) }

theorem witness_RefreshCoopRunTrace : streaming.stopped = false ∧ streaming.seq = .run .refreshCoop 0 0 ∧
    streaming.row = 0 ∧ streaming.port = .free ∧ streaming.env.tpSilent = false ∧
    streaming.env.turns = List.replicate (202 + 1) (.agent .seq) ++ [] ∧
    streaming.env.busy = List.replicate 1 true ++ false :: [] ∧ streaming.env.ok = List.replicate 204 true ++ [] := by
  simp [streaming, background, block, State.launch, State.stopped, envOf, Env.idle]
theorem witness_PowerOnRunTrace : (running .powerOn 4 3 [true, false]).stopped = false ∧
    (running .powerOn 4 3 [true, false]).seq = .run .powerOn 0 0 ∧
    (running .powerOn 4 3 [true, false]).port = .held 0 ∧
    (running .powerOn 4 3 [true, false]).env.tpSilent = false ∧
    (running .powerOn 4 3 [true, false]).env.turns = List.replicate (1 + 3) (.agent .seq) ++ [] ∧
    (running .powerOn 4 3 [true, false]).env.busy = List.replicate 1 true ++ false :: [] ∧
    (running .powerOn 4 3 [true, false]).env.ok = [true, true, true] ++ [] := by decide
theorem witness_SleepRunTrace : (running .sleep 2 2 []).stopped = false ∧
    (running .sleep 2 2 []).seq = .run .sleep 0 0 ∧ (running .sleep 2 2 []).port = .held 0 ∧
    (running .sleep 2 2 []).env.tpSilent = false ∧
    (running .sleep 2 2 []).env.turns = [.agent .seq, .agent .seq] ++ [] ∧
    (running .sleep 2 2 []).env.ok = [true, true] ++ [] := by decide
theorem witness_RowStepRule :
    ((holding .sync .refreshSync 2 [] [true] 199).nextTurn = .agent .seq ∧
      (holding .sync .refreshSync 2 [] [true] 199).stopped = false ∧
      (holding .sync .refreshSync 2 [] [true] 199).row < 200 ∧
      (holding .sync .refreshSync 2 [] [true] 199).env.tpSilent = false ∧
      (holding .sync .refreshSync 2 [] [true] 199).takeTurn.tpResult = true ∧
      (holding .sync .refreshSync 2 [] [true] 199).seq = .run .refreshSync 0 2) ∧
    ((background 1 [] [true] 0).nextTurn = .agent .seq ∧ (background 1 [] [true] 0).stopped = false ∧
      (background 1 [] [true] 0).row < 200 ∧ (background 1 [] [true] 0).env.tpSilent = false ∧
      (background 1 [] [true] 0).takeTurn.tpResult = true ∧
      (background 1 [] [true] 0).seq = .run .refreshCoop 0 1) ∧
    ((background 0 [] [true, true] 0).nextTurn = .agent .seq ∧ (background 0 [] [true, true] 0).stopped = false ∧
      (background 0 [] [true, true] 0).row < 200 ∧ (background 0 [] [true, true] 0).env.tpSilent = false ∧
      (background 0 [] [true, true] 0).takeTurn.tpResult = true ∧
      (background 0 [] [true, true] 0).seq = .run .refreshCoop 0 0 ∧
      FramesSucceed 2 (background 0 [] [true, true] 0).takeTurn) :=
  ⟨by decide, by decide, by decide, by decide, by decide, by decide, by decide, by decide, rfl, rfl, trivial⟩
theorem witness_FailedFrameEndsStep : (holding .sync .init 6 [] [true, true, false]).nextTurn = .agent .seq ∧
    (holding .sync .init 6 [] [true, true, false]).seq = .run .init 0 6 ∧ Operation.init ≠ .refreshCoop ∧
    (holding .sync .init 6 [] [true, true, false]).port = .held 0 ∧
    ∃ t, step (holding .sync .init 6 [] [true, true, false]) = .next t ∧
      ∃ dc l, Event.frame dc l false ∈ t.trace.drop (holding .sync .init 6 [] [true, true, false]).trace.length :=
  ⟨rfl, rfl, by decide, rfl, _, rfl, .command, [0x11], by decide⟩
theorem witness_CompletionStep : (background 3 [false] [] 200).nextTurn = .agent .seq ∧
    (background 3 [false] [] 200).stopped = false ∧ (background 3 [false] [] 200).seq = .run .refreshCoop 0 3 ∧
    (background 3 [false] [] 200).port = .free ∧ (background 3 [false] [] 200).takeTurn.busyInput = false := by decide
theorem witness_InitCompletion : (holding .sync .init 9).nextTurn = .agent .seq ∧
    (holding .sync .init 9).stopped = false ∧ (holding .sync .init 9).seq = .run .init 0 9 := by decide
theorem witness_SleepCompletion : (holding .sync .sleep 1).nextTurn = .agent .seq ∧
    (holding .sync .sleep 1).stopped = false ∧ (holding .sync .sleep 1).seq = .run .sleep 0 1 := by decide
theorem witness_TraceCounts : full.wf ∧ frames [.yield] = [] := ⟨⟨by decide, List.length_replicate⟩, by decide⟩
theorem witness_StatusWordBits :
    ((block .sync).faultTp = false ∧ (block .sync).faultBc = false ∧ (block .sync).mode = .sync ∧
      (block .sync).seq = .idle ∧ (block .sync).lbusy = false) ∧
    ((block .coop).faultTp = false ∧ (block .coop).faultBc = false ∧ (block .coop).mode = .coop ∧
      (block .coop).seq = .idle ∧ (block .coop).lbusy = false) ∧
    ((background 1).faultTp = false ∧ (background 1).faultBc = false ∧ (background 1).mode = .coop ∧
      (background 1).seq ≠ .idle ∧ (background 1).lbusy = true) ∧
    ((holding .coop .init 1).faultTp = false ∧ (holding .coop .init 1).faultBc = false ∧
      (holding .coop .init 1).mode = .coop ∧ (holding .coop .init 1).seq ≠ .idle ∧
      (holding .coop .init 1).lbusy = false) := by decide
theorem witness_StatusReadStep : (turn0 [.status] [true]).stopped = false ∧
    (turn0 [.status] [true]).nextTurn = .agent (.host 0) ∧
    (turn0 [.status] [true]).hosts[0]? = some ⟨.free, [.status], none, []⟩ := by decide
theorem witness_WaitReadySteps :
    ((waiting0 (.waitReady true) false []).stopped = false ∧
      (waiting0 (.waitReady true) false []).nextTurn = .agent (.host 0) ∧
      (waiting0 (.waitReady true) false []).hosts[0]? = some ⟨.waitReady true, [], none, []⟩) ∧
    ((waiting0 (.waitReady false) false [false]).hosts[0]? = some ⟨.waitReady false, [], none, []⟩ ∧
      (waiting0 (.waitReady false) false [false]).lbusy = false ∧
      (waiting0 (.waitReady false) false [false]).takeTurn.busyInput = false) ∧
    ((waiting0 (.waitReady false) true [false]).hosts[0]? = some ⟨.waitReady false, [], none, []⟩ ∧
      (waiting0 (.waitReady false) true [false]).lbusy = true) ∧
    (waiting0 (.waitReady false) false [true]).takeTurn.busyInput = true := by decide
theorem witness_HostFramebufferAccess :
    ((turn0 [.write 4999 1]).stopped = false ∧ Memory.wf (turn0 [.write 4999 1]).fb ∧
      (turn0 [.write 4999 1]).nextTurn = .agent (.host 0) ∧
      (turn0 [.write 4999 1]).hosts[0]? = some ⟨.free, [.write 4999 1], none, []⟩ ∧ 4999 < 5000) ∧
    ((turn0 [.read 4975 25]).stopped = false ∧ (turn0 [.read 4975 25]).nextTurn = .agent (.host 0) ∧
      (turn0 [.read 4975 25]).hosts[0]? = some ⟨.free, [.read 4975 25], none, []⟩ ∧ 4975 + 25 ≤ 5000) := by decide
theorem witness_ReadAfterWrite : Memory.wf [(3, 7), (4999, 1)] ∧
    ∀ a, Memory.read [(3, 7), (4999, 1)] a = Memory.read [(3, 7), (4999, 1)] a := ⟨by decide, fun _ => rfl⟩
theorem witness_PixelSentInverted : (199 < 200 ∧ 199 < 200) ∧ 0 < 200 ∧ 199 < 200 := by decide
theorem witness_StepRunsRequest :
    ((turn0 [.request 0x1]).stopped = false ∧ (turn0 [.request 0x1]).nextTurn = .agent (.host 0) ∧
      (turn0 [.request 0x1]).hosts[0]? = some ⟨.free, [.request 0x1], none, []⟩ ∧
      (turn0 [.request 0x1]).port = .free) ∧
    (0xF : ReqWord) ∉ [0x1, 0x2, 0x3, 0x4] := by decide

/-- SEQ inside INIT entry 6, before `VCOM`'s neighbour, as `withFetchWord` places it. -/
def inside : State :=
  { holding .sync .init 6 [] [true, true] with seq := .segment .init 0 6 [.send .vendorReg, .advance] }

theorem witness_StepRunsCommand :
    ((holding .sync .sleep 0 [] [true, true]).stopped = false ∧
      (holding .sync .sleep 0 [] [true, true]).nextTurn = .agent .seq ∧
      (holding .sync .sleep 0 [] [true, true]).env.tpSilent = false ∧
      (holding .sync .sleep 0 [] [true, true]).seq = .run .sleep 0 0) ∧
    (∃ t, exec .deepSleep { holding .sync .sleep 0 [] [true, true] with
      env := (holding .sync .sleep 0 [] [true, true]).env.takeTurn, seq := .run .sleep 0 0 } = .next t) ∧
    (inside.stopped = false ∧ inside.nextTurn = .agent .seq ∧ inside.env.tpSilent = false ∧
      inside.seq = .segment .init 0 6 [.send .vendorReg, .advance]) ∧
    ∃ t, exec .vendorReg { inside with env := inside.env.takeTurn, seq := .run .init 0 6 } = .next t :=
  ⟨by decide, ⟨_, rfl⟩, by decide, _, rfl⟩

end Sys2Proof.Tests
end

section
/-! Block reset (10_state.md R51, 70_reset_and_hazards.md R390): what a launch leaves in each field, and that the step of
a block-reset turn is a launch. -/

namespace Sys2Proof.Machine
open Sys2Proof.Safety

/-- Every host agent of a launch is a fresh one: `Free`, nothing read yet, its program still to run. -/
theorem eq_fresh_of_mem_launchHosts {m : Mode} {progs : List (List HostAction)} {r : HostAgent}
    (hr : r ∈ launchHosts m progs) : ∃ p, r = .fresh p := by
  cases progs with
  | nil => exact ⟨[], List.mem_singleton.mp hr⟩
  | cons p ps =>
    cases m with
    | sync => exact ⟨p, List.mem_singleton.mp hr⟩
    | coop =>
      rcases List.mem_cons.mp hr with rfl | hr
      · exact ⟨p, rfl⟩
      · obtain ⟨q, -, rfl⟩ := List.mem_map.mp hr
        exact ⟨q, rfl⟩

/-- Bit 7 of STATUS is the constant zero at the head of the word (10_state.md R39). -/
theorem State.statusWord_bit7 (s : State) (b : Bool) : (s.statusWord b).getLsbD 7 = false := by
  simp only [State.statusWord, BitVec.getLsbD_append, BitVec.getLsbD_ofBool]
  rfl

/-- The one place where R51's table is read: a launch, whatever its parameters, environment and arguments. -/
theorem State.launch_afterReset (cfg : Params) (env : Env) (fb : List Host.Cell) (progs : List (List HostAction)) :
    AfterReset env.modeSel (.launch cfg env fb progs) where
  mode := rfl
  seq := rfl
  row := rfl
  lbusy := rfl
  signal := rfl
  waiters := rfl
  port := rfl
  faults := ⟨rfl, rfl⟩
  rst := rfl
  panel := rfl
  hosts r hr := by
    obtain ⟨p, rfl⟩ := eq_fresh_of_mem_launchHosts hr
    rfl
  status7 := State.statusWord_bit7 _
  trace := rfl

/-- The turn of a block reset, in a stopped block too (60_exceptions.md R355). -/
theorem step_blockReset {s : State} {l : Launch} (ht : s.nextTurn = .blockReset l) :
    step s = .next (s.takeTurn.blockReset l) := by
  simp only [step, ht, State.runTurn]

/-- The strap level that a block reset samples is the one before its turn is taken. -/
theorem State.blockReset_afterReset (s : State) (l : Launch) : AfterReset s.env.modeSel (s.takeTurn.blockReset l) := by
  rw [← Env.takeTurn_modeSel s.env]
  exact State.launch_afterReset ..

/-- Settles O7: a block-reset turn and `State.reset` are both launches, and a launch leaves the values of R51. -/
theorem blockResetValues : Obligations.BlockResetValues := by
  unfold Obligations.BlockResetValues
  exact ⟨fun s l ht => ⟨_, step_blockReset ht, State.blockReset_afterReset s l⟩, State.launch_afterReset ..⟩

end Sys2Proof.Machine
end

section
/-! The last step of an operation that holds the port (41_reset_init.md R186): SEQ's step from an entry that sends no
frame, and `finish` as a state equation. -/

namespace Sys2Proof.Machine

/-- An entry without a frame, so without a row, is performed whether or not the transport answers. -/
theorem State.runEntry_of_no_transport {original s : State} {body : List Stmt}
    (hb : body.any Stmt.usesTransport = false) : original.runEntry s body = .next (s.runStmts body) := by
  have hrow : Stmt.row ∉ body := fun hm => List.any_eq_false.mp hb _ hm rfl
  simp [State.runEntry, hb, hrow]

/-- SEQ's turn at an entry without a frame is the entry's statements. -/
theorem step_entry_of_no_transport {s : State} {op : Operation} {h pc : Nat} {body : List Stmt}
    (ht : s.nextTurn = .agent .seq) (hs : s.stopped = false) (hq : s.seq = .run op h pc)
    (hb : (stepTable op)[pc]? = some body) (hu : body.any Stmt.usesTransport = false) :
    step s = .next (s.takeTurn.runStmts body) := by
  have hq' : s.takeTurn.seq = .run op h pc := hq
  rw [step_seq ht hs, State.seqStep_run hq' hb, State.runEntry_of_no_transport hu]

/-- An operation that stands at an entry of a block that is not stopped is live. -/
theorem State.live_of_run {s : State} {op : Operation} {h pc : Nat} (hs : s.stopped = false)
    (hq : s.seq = .run op h pc) : s.live = true := by
  simp [State.live, hs, hq, Seq.isIdle]

/-- `finish` leaves SEQ idle and answers the requester `OK`. -/
theorem State.finish_run {s : State} {op : Operation} {h pc : Nat} (hq : s.seq = .run op h pc) :
    s.finish = { s with
      seq := .idle
      hosts := s.hosts.modify h (fun r => r.setSt .free)
      trace := s.trace ++ [.resp h .ok]
      port := if s.port = .held h then .free else s.port } := by
  rw [State.finish, hq]
  exact State.respond_eq ..

/-- Settles O49: entry 9 of INIT sends no frame; after its `S.panel <- CONFIGURED` INIT still runs, so `finish` follows. -/
theorem initCompletion : Obligations.InitCompletion := by
  unfold Obligations.InitCompletion
  intro s h ht hs hq
  have hrun : (s.takeTurn.runStmt .configured).seq = .run .init h 9 := hq
  have hlive : (s.takeTurn.runStmt .configured).live = true := State.live_of_run hs hrun
  calc step s
    _ = .next (s.takeTurn.runStmts [.configured, .finish]) := step_entry_of_no_transport ht hs hq rfl rfl
    _ = .next (s.takeTurn.runStmt .configured).finish := by
      rw [State.runStmts_cons_live _ hlive, State.runStmts_single]
      rfl
    _ = _ := by
      rw [State.finish_run hrun]
      rfl

end Sys2Proof.Machine
end

section
/-! The BUSY monitor (43_busy_monitor.md R240, R243): a SEQ step at a `POLL_PIN` entry by its sample, and READY as bit 0
of STATUS. -/

namespace Sys2Proof.Machine

/-- The entries of the step tables that are a `POLL_PIN` of an operation that holds the port. -/
abbrev pollEntries : List (Operation × Nat) :=
  [(.init, 3), (.init, 5), (.init, 7), (.refreshSync, 0), (.refreshSync, 4), (.powerOn, 1)]

/-- Each of these entries is the one statement `POLL_PIN`. -/
theorem stepTable_of_mem_pollEntries {op : Operation} {pc : Nat} (h : (op, pc) ∈ pollEntries) :
    (stepTable op)[pc]? = some [.poll] := by
  have entries : ∀ e ∈ pollEntries, (stepTable e.1)[e.2]? = some [.poll] := by decide
  exact entries (op, pc) h

/-- A `POLL_PIN` whose sample is 1 waits and does not move SEQ. -/
theorem State.runStmt_poll_busy {s : State} (hb : s.busyInput = true) :
    s.runStmt .poll = { s with
      env := s.env.takeBusy
      trace := s.trace ++ [.busy true, .delay Config.tPoll] } := by
  simp [State.runStmt, hb, State.sampleBusy_eq, State.delay, State.emit, State.setTrace]

/-- A `POLL_PIN` whose sample is 0 moves SEQ on, with no delay. -/
theorem State.runStmt_poll_ready {s : State} (hb : s.busyInput = false) :
    s.runStmt .poll = { s with
      env := s.env.takeBusy
      trace := s.trace ++ [.busy false]
      seq := s.seq.advance } := by
  simp [State.runStmt, hb, State.sampleBusy_eq, State.setSeq]

/-- SEQ's turn at an entry that is a `POLL_PIN` is that statement alone. -/
theorem step_poll {s : State} {op : Operation} {h pc : Nat} (hs : s.stopped = false)
    (ht : s.nextTurn = .agent .seq) (hq : s.seq = .run op h pc) (hb : (stepTable op)[pc]? = some [.poll]) :
    step s = .next (s.takeTurn.runStmt .poll) := by
  rw [step_entry_of_no_transport ht hs hq hb rfl, State.runStmts_single]

/-- Settles O39: at each of the six entries SEQ's step is `POLL_PIN`, and the sample decides which of its two branches. -/
theorem pollPinRule : Obligations.PollPinRule := by
  unfold Obligations.PollPinRule
  intro s op h pc hpoll hs ht hq
  have hstep := step_poll hs ht hq (stepTable_of_mem_pollEntries hpoll)
  constructor
  · intro hb
    rw [hstep, State.runStmt_poll_busy hb]
    rfl
  · intro hb
    rw [hstep, State.runStmt_poll_ready hb, State.takeTurn_seq, hq]
    rfl

/-- Bit 0 of STATUS is the last piece of the word, READY (10_state.md R39). -/
theorem State.statusWord_bit0 (s : State) (b : Bool) : (s.statusWord b).getLsbD 0 = s.ready b := by
  simp only [State.statusWord, BitVec.getLsbD_append, BitVec.getLsbD_ofBool]
  rfl

/-- Settles O52: the formula is READY's definition, and READY is the last piece of the STATUS word. -/
theorem readyFormula : Obligations.ReadyFormula := by
  unfold Obligations.ReadyFormula
  exact fun s b => ⟨rfl, State.statusWord_bit0 s b⟩

end Sys2Proof.Machine
end

section
/-! The background refresh (44_refresh.md R275, R277): the two outcomes of REFRESH in `COOP` mode, and SEQ's completion
step. -/

namespace Sys2Proof.Machine

/-- In `COOP` mode with the port free, a port-using issue while a refresh is in flight takes its conflict branch. -/
theorem State.issueOnPort_conflict {s : State} (conflict accept : State → State) (hp : s.port = .free)
    (hm : s.mode = .coop) (hl : s.lbusy = true) : s.issueOnPort conflict accept = conflict s := by
  simp [State.issueOnPort, hp, hm, hl]

/-- With the port free and no refresh in flight, a port-using issue is accepted in either mode. -/
theorem State.issueOnPort_accept {s : State} (conflict accept : State → State) (hp : s.port = .free)
    (hl : s.lbusy = false) : s.issueOnPort conflict accept = accept s := by
  simp [State.issueOnPort, hp, hl]

/-- A response to an agent that is free already, while no one holds the port, is its event alone. -/
theorem State.respond_of_free {s : State} {h : Nat} (c : Response) (hp : s.port = .free)
    (hf : s.st? h = some .free) : s.respond h c = { s with trace := s.trace ++ [.resp h c] } := by
  rw [State.respond_of_port_free s h c hp, modify_free hf]

/-- The bookkeeping of R278 keeps a configured panel and makes any other unknown. -/
theorem State.bookkeep_eq (s : State) :
    s.bookkeep = { s with panel := if s.panel = .configured then .configured else .undefined } := by
  unfold State.bookkeep
  split
  case isTrue h => rw [← h]
  case isFalse => rfl

/-- Acceptance of a `COOP` REFRESH of a free agent: the response leaves the agent free and the port untaken. -/
theorem State.acceptCoop_eq {s : State} (hp : s.port = .free) (hf : s.st? s.issuer = some .free) :
    s.acceptCoop = { s with
      lbusy := true
      row := 0
      seq := .run .refreshCoop s.issuer 0
      panel := if s.panel = .configured then .configured else .undefined
      trace := s.trace ++ [.resp s.issuer .ok] } := by
  rw [State.acceptCoop, State.bookkeep_eq]
  exact State.respond_of_free .ok hp hf

/-- REFRESH of a free agent in `COOP` mode, the port free and a refresh in flight: it is answered `BUSY`. -/
theorem exec_refresh_inFlight {s : State} (hs : s.stopped = false) (hf : s.st? s.issuer = some .free)
    (hp : s.port = .free) (hm : s.mode = .coop) (hl : s.lbusy = true) :
    exec .refresh s = .next (s.answer .busy) := by
  rw [exec, execRefresh, State.issue_free _ hs hf, State.issueOnPort_conflict _ _ hp hm hl]

/-- REFRESH of a free agent in `COOP` mode, the port free and no refresh in flight: it starts in the background. -/
theorem exec_refresh_acceptCoop {s : State} (hs : s.stopped = false) (hf : s.st? s.issuer = some .free)
    (hp : s.port = .free) (hm : s.mode = .coop) (hl : s.lbusy = false) :
    exec .refresh s = .next s.acceptCoop := by
  rw [exec, execRefresh, State.issue_free _ hs hf, State.issueOnPort_accept _ _ hp hl, hm]

/-- Settles O22: the flag decides between `BUSY` and acceptance; agent and port are free, so either response is an event
alone. -/
theorem refreshCoopRule : Obligations.RefreshCoopRule := by
  unfold Obligations.RefreshCoopRule
  intro s hs hf hp hm
  constructor
  · intro hl
    rw [exec_refresh_inFlight hs hf hp hm hl, State.answer, State.respond_of_free .busy hp hf]
  · intro hl
    rw [exec_refresh_acceptCoop hs hf hp hm hl, State.acceptCoop_eq hp hf]

/-- The not-busy branch of the background busy poll is COMPLETE, after the sample (R276 entry 3). -/
theorem State.runStmt_coopPoll_ready {s : State} (hb : s.busyInput = false) :
    s.runStmt .coopPoll = s.sampleBusy.complete := by
  simp [State.runStmt, hb]

/-- COMPLETE while the port is free: a firing, then the flag cleared and SEQ idle. -/
theorem State.complete_eq {s : State} (hp : s.port = .free) :
    s.complete = { s with
      hosts := s.answerOrder.foldl (fun l h => l.modify h (fun r => r.setSt .free)) s.hosts
      trace := s.trace ++ s.answerOrder.map (fun h => .resp h .ok) ++ [.done]
      waiters := []
      signal := false
      env := s.env.takeOrder s.waiters.length
      lbusy := false
      seq := .idle } := by
  rw [State.complete, State.fire_eq s hp]
  rfl

/-- SEQ's turn at entry 3 of `REFRESH_COOP` whose sample reads 0 is that sample and COMPLETE, in one step. -/
theorem step_complete {s : State} {h : Nat} (ht : s.nextTurn = .agent .seq) (hs : s.stopped = false)
    (hq : s.seq = .run .refreshCoop h 3) (hb : s.takeTurn.busyInput = false) :
    step s = .next s.takeTurn.sampleBusy.complete := by
  have hentry : step s = .next (s.takeTurn.runStmts [.coopPoll]) := step_entry_of_no_transport ht hs hq rfl rfl
  rw [hentry, State.runStmts_single, State.runStmt_coopPoll_ready hb]

/-- Settles O48: the step is COMPLETE after the sample; its answering order is an order of the waiters, and answering
them frees exactly them. -/
theorem completionStep : Obligations.CompletionStep := by
  unfold Obligations.CompletionStep
  intro s h ht hs hq hp hb
  have hcomplete := State.complete_eq (s := s.takeTurn.sampleBusy) hp
  have hperm : s.takeTurn.sampleBusy.answerOrder.Perm s.waiters := orderBy_perm _ _
  refine ⟨_, _, step_complete ht hs hq hb, hperm, fun g => ?_, ?_⟩
  · rw [hcomplete, hosts_answered]
    simp only [hperm.mem_iff]
    rfl
  · rw [hcomplete, State.sampleBusy_eq, hb]
    rfl

end Sys2Proof.Machine
end

section
/-! The completion step of SLEEP (45_power.md R314, R315): an entry that ends in `finish` after one statement that keeps
the operation running, and the panel that SLEEP leaves. -/

namespace Sys2Proof.Machine

/-- SEQ's turn at an entry of one frameless statement and `finish`: the statement leaves the operation running, so the
operation is finished in the same step. -/
theorem step_stmt_finish {s : State} {op : Operation} {h pc : Nat} {c : Stmt}
    (ht : s.nextTurn = .agent .seq) (hs : s.stopped = false) (hq : s.seq = .run op h pc)
    (hb : (stepTable op)[pc]? = some [c, .finish]) (hu : Stmt.usesTransport c = false)
    (hstopped : (s.takeTurn.runStmt c).stopped = false) (hrun : (s.takeTurn.runStmt c).seq = .run op h pc) :
    step s = .next (s.takeTurn.runStmt c).finish := by
  have hbody : [c, .finish].any Stmt.usesTransport = false := by
    rw [List.any_cons, hu]
    rfl
  have hlive : (s.takeTurn.runStmt c).live = true := State.live_of_run hstopped hrun
  rw [step_entry_of_no_transport ht hs hq hb hbody, State.runStmts_cons_live _ hlive, State.runStmts_single]
  rfl

/-- Settles O50: entry 1 of SLEEP sets the panel by whether it was configured, and SLEEP still runs, so `finish`
follows. -/
theorem sleepCompletion : Obligations.SleepCompletion := by
  unfold Obligations.SleepCompletion
  intro s h ht hs hq
  have hrun : (s.takeTurn.runStmt .asleep).seq = .run .sleep h 1 := hq
  rw [step_stmt_finish ht hs hq rfl rfl hs hrun, State.finish_run hrun]
  rfl

end Sys2Proof.Machine
end

section
/-! The mode (46_mode_mux.md R336): no operation of the model writes `S.mode`, no meaning of an instruction does, so no
agent's step does; a turn outside the block writes it only if it is a block reset. -/

namespace Sys2Proof.Machine
open Sys2Proof.Safety

/-! Shared operations. -/

/-- Skipping a state function or performing it, the mode stands if the function keeps it. -/
theorem State.andThen_mode {s : State} {f : State → State} (hf : (f s).mode = s.mode) :
    (s.andThen f).mode = s.mode := by
  unfold State.andThen
  split
  · exact hf
  · rfl

@[simp] theorem State.respond_mode (s : State) (h : Nat) (c : Response) : (s.respond h c).mode = s.mode := by
  rw [State.respond_eq]

@[simp] theorem State.raiseFault_mode (s : State) (k : FaultKind) : (s.raiseFault k).mode = s.mode := by
  cases k <;> rfl

@[simp] theorem State.bookkeep_mode (s : State) : s.bookkeep.mode = s.mode := by
  rw [State.bookkeep_eq]

@[simp] theorem State.abort_mode (s : State) : s.abort.mode = s.mode := by
  unfold State.abort
  split <;> simp

@[simp] theorem State.sendFrame_mode (s : State) (dc : Select) (l : List Byte) : (s.sendFrame dc l).mode = s.mode := by
  unfold State.sendFrame
  split <;> simp

@[simp] theorem State.cmd_mode (s : State) (op : Byte) (l : List Byte) : (s.cmd op l).mode = s.mode := by
  cases l with
  | nil => exact s.sendFrame_mode ..
  | cons b bs => exact (State.andThen_mode (State.sendFrame_mode ..)).trans (s.sendFrame_mode ..)

@[simp] theorem State.sampleBusy_mode (s : State) : s.sampleBusy.mode = s.mode := rfl

@[simp] theorem State.answerAll_mode (s : State) (hs : List Nat) : (s.answerAll hs).mode = s.mode := by
  unfold State.answerAll
  induction hs generalizing s with
  | nil => rfl
  | cons h hs ih => exact (ih _).trans (s.respond_mode h .ok)

@[simp] theorem State.complete_mode (s : State) : s.complete.mode = s.mode := by
  simp [State.complete, State.fire]

@[simp] theorem State.finish_mode (s : State) : s.finish.mode = s.mode := by
  unfold State.finish
  split <;> simp

/-! The meaning of every instruction. -/

/-- A request keeps the mode if its issue step does. -/
theorem State.issue_mode {s t : State} {f : State → State} (h : s.issue f = .next t) (hf : (f s).mode = s.mode) :
    t.mode = s.mode := by
  rcases s.issue_cases f with ⟨-, e⟩ | ⟨-, -, e⟩ | ⟨-, -, e⟩ <;> rw [e] at h <;> cases h
  · rfl
  · exact hf

/-- A port-using issue step keeps the mode if its conflict and its acceptance do. -/
theorem State.issueOnPort_mode {s : State} {conflict accept : State → State} (hc : (conflict s).mode = s.mode)
    (ha : (accept s).mode = s.mode) : (s.issueOnPort conflict accept).mode = s.mode := by
  rcases s.issueOnPort_cases conflict accept with ⟨-, e⟩ | ⟨-, -, -, e⟩ | ⟨-, -, e⟩ <;> rw [e]
  · exact hc
  · exact ha

/-- A panel command keeps the mode, whether it has a step or not. -/
theorem State.seqCmd_mode {s t : State} {op : Byte} {l : List Byte} (h : s.seqCmd op l = .next t) :
    t.mode = s.mode := by
  unfold State.seqCmd at h
  split at h
  · cases h
  · split at h <;> cases h
    · rfl
    · exact s.cmd_mode op l

/-- REFRESH reads the mode to choose what it starts, and keeps it. -/
theorem execRefresh_mode {s t : State} (h : execRefresh s = .next t) : t.mode = s.mode := by
  refine State.issue_mode h (State.issueOnPort_mode (s.respond_mode s.issuer .busy) ?_)
  split
  · simp [State.acceptCoop, State.answer]
  · simp [State.accept]

/-- WAIT_DONE reads the mode and keeps it. -/
theorem execWaitDone_mode {s t : State} (h : execWaitDone s = .next t) : t.mode = s.mode := by
  refine State.issue_mode h ?_
  split
  · exact s.respond_mode ..
  · rfl

/-- No request and no panel command changes the mode. -/
theorem exec_mode {i : Instr} {s t : State} (h : exec i s = .next t) : t.mode = s.mode := by
  cases i <;> rw [exec] at h
  case init | sleep => exact State.issue_mode h (State.issueOnPort_mode (s.raiseFault_mode .busConflict) rfl)
  case powerOn =>
    exact State.issue_mode h (State.issueOnPort_mode (s.raiseFault_mode .busConflict) (State.bookkeep_mode _))
  case refresh => exact execRefresh_mode h
  case waitReady => exact State.issue_mode h rfl
  case waitDone => exact execWaitDone_mode h
  case reserved0 | reserved7 | reserved8 => exact State.issue_mode h (s.respond_mode s.issuer .illegal)
  all_goals exact State.seqCmd_mode h

/-! The agents. -/

theorem State.memWrite_mode {s t : State} {a : Nat} {v : Byte} (h : s.memWrite a v = some t) : t.mode = s.mode := by
  unfold State.memWrite at h
  split at h <;> cases h
  rfl

theorem State.hostWrite_mode {s t : State} {a : Nat} {v : Byte} (h : s.hostWrite a v = .next t) :
    t.mode = s.mode := by
  unfold State.hostWrite at h
  split at h <;> cases h
  exact State.memWrite_mode ‹_›

theorem State.hostRead_mode {s t : State} {g a n : Nat} (h : s.hostRead g a n = .next t) : t.mode = s.mode := by
  unfold State.hostRead at h
  split at h <;> cases h
  rfl

/-- A host agent's line keeps the mode: a request by its meaning, the others because they read or write other fields. -/
theorem State.freeStep_mode {s t : State} {g : Nat} {prog : List HostAction} (h : s.freeStep g prog = .next t) :
    t.mode = s.mode := by
  unfold State.freeStep at h
  split at h
  · cases h
    rfl
  · split at h
    · cases h
      rfl
    · exact (exec_mode h).trans rfl
  · cases h
    rfl
  · exact (State.hostWrite_mode h).trans rfl
  · exact (State.hostRead_mode h).trans rfl

/-- A host agent's poll of WAIT_READY keeps the mode, whatever its sample. -/
theorem State.pollReady_mode (s : State) (g : Nat) : (s.pollReady g).mode = s.mode := by
  unfold State.pollReady
  split
  · simp
  · rfl

theorem State.hostStep_mode {s t : State} {g : Nat} (h : s.hostStep g = .next t) : t.mode = s.mode := by
  unfold State.hostStep at h
  split at h
  · cases h
    rfl
  · split at h
    · exact State.freeStep_mode h
    · cases h
      rfl
    · cases h
      exact s.pollReady_mode g
    · cases h
      rfl
    · cases h
      rfl

/-- A command of a step table keeps the mode: it is answered by its meaning, or leaves the state. -/
theorem answeredState_exec_mode (i : Instr) (s : State) : (answeredState (exec i s) s).mode = s.mode := by
  cases h : exec i s with
  | next t => exact exec_mode h
  | fault _ => rfl
  | refused _ => rfl

/-- A statement of a step table keeps the mode, whatever it samples and whether its frames succeed. -/
theorem State.runStmt_mode (s : State) (c : Stmt) : (s.runStmt c).mode = s.mode := by
  cases c with
  | send i => exact answeredState_exec_mode i s
  | row => exact (State.andThen_mode rfl).trans (s.sendFrame_mode ..)
  | poll => simp only [State.runStmt]; split <;> rfl
  | coopPoll => simp only [State.runStmt]; split <;> simp [State.delay]
  | finish => exact s.finish_mode
  | _ => rfl

theorem State.runStmts_mode (s : State) (cs : List Stmt) : (s.runStmts cs).mode = s.mode := by
  induction cs generalizing s with
  | nil => rfl
  | cons c cs ih => exact (State.andThen_mode (ih _)).trans (s.runStmt_mode c)

/-- The statements of an entry run from a state of the same mode, or SEQ has no step and `original` stands (log 5). -/
theorem State.runEntry_mode {original s t : State} {body : List Stmt}
    (h : original.runEntry s body = .next t) (ho : s.mode = original.mode) : t.mode = original.mode := by
  unfold State.runEntry at h
  split at h
  · cases h
    rfl
  · split at h <;> cases h
    exact (s.runStmts_mode body).trans ho

theorem State.seqStep_mode {s t : State} (h : s.seqStep = .next t) : t.mode = s.mode := by
  unfold State.seqStep at h
  split at h
  · cases h
    rfl
  · split at h
    · exact State.runEntry_mode h rfl
    · cases h
  · exact State.runEntry_mode h (s.setSeq_mode _)

/-! The step. -/

/-- The turn of a strap change, in a stopped block too. -/
theorem step_strap {s : State} {m : Mode} (ht : s.nextTurn = .strap m) :
    step s = .next (s.takeTurn.setEnv { s.takeTurn.env with modeSel := m }) := by
  simp only [step, ht, State.runTurn]

/-- A step that is no block reset was an agent's, or wrote the environment alone: either keeps the mode. -/
theorem step_mode {s t : State} (h : step s = .next t) (hr : NoReset s) : t.mode = s.mode := by
  rcases step_cases h with ⟨-, -, hseq⟩ | ⟨g, -, -, hhost⟩ | ⟨l, hl, -⟩ | ⟨m, -, rfl⟩ | ⟨b, -, rfl⟩
  · exact (State.seqStep_mode hseq).trans s.takeTurn_mode
  · exact (State.hostStep_mode hhost).trans s.takeTurn_mode
  · exact absurd hl (hr l)
  · rfl
  · rfl

/-- Settles O10: the strap's turn writes the strap's level alone, and each kind of step but a block reset keeps the
mode. -/
theorem modeFixedUntilReset : Obligations.ModeFixedUntilReset := by
  unfold Obligations.ModeFixedUntilReset
  exact ⟨fun _ _ => step_strap, fun _ _ => step_mode⟩

end Sys2Proof.Machine
end

section
/-! Illegal requests and the bus conflict (60_exceptions.md R352, R356): the two answers of an issue step that start
nothing, each as a state equation. -/

namespace Sys2Proof.Machine

/-- Answering the issuing agent, which is free: the response's event, and the port if this agent held it. -/
theorem State.answer_of_issuer_free {s : State} (c : Response) (hf : s.st? s.issuer = some .free) :
    s.answer c = { s with
      trace := s.trace ++ [.resp s.issuer c]
      port := if s.port = .held s.issuer then .free else s.port } := by
  rw [State.answer, State.respond_eq, modify_free hf]

/-- A request that is answered `ILLEGAL` whatever the state of the block. -/
theorem State.issue_illegal {s : State} (hs : s.stopped = false) (hf : s.st? s.issuer = some .free) :
    s.issue (fun t => t.answer .illegal) = .next { s with
      trace := s.trace ++ [.resp s.issuer .illegal]
      port := if s.port = .held s.issuer then .free else s.port } := by
  rw [State.issue_free _ hs hf, State.answer_of_issuer_free .illegal hf]

/-- WAIT_DONE of a free agent in `SYNC` mode takes the branch of a reserved code. -/
theorem exec_waitDone_sync {s : State} (hs : s.stopped = false) (hf : s.st? s.issuer = some .free)
    (hm : s.mode = .sync) : exec .waitDone s = .next (s.answer .illegal) := by
  rw [exec, execWaitDone, State.issue_free _ hs hf, hm]

/-- Settles O28: the reserved codes are answered in any state, and so is WAIT_DONE in `SYNC` mode. -/
theorem illegalRequestAnswered : Obligations.IllegalRequestAnswered := by
  unfold Obligations.IllegalRequestAnswered
  intro s i code hi hs hf
  simp only [List.mem_cons, List.not_mem_nil, or_false] at hi
  rcases hi with (rfl | rfl | rfl) | ⟨rfl, hm⟩
  · exact State.issue_illegal hs hf
  · exact State.issue_illegal hs hf
  · exact State.issue_illegal hs hf
  · rw [exec_waitDone_sync hs hf hm, State.answer_of_issuer_free .illegal hf]

/-- A port-using request whose conflict is `Fault(BUS_CONFLICT)`, issued with the port free while a refresh is in flight. -/
theorem State.issue_busConflict {s : State} (accept : State → State) (hs : s.stopped = false)
    (hf : s.st? s.issuer = some .free) (hm : s.mode = .coop) (hp : s.port = .free) (hl : s.lbusy = true) :
    s.issue (fun t => t.issueOnPort (fun u => u.raiseFault .busConflict) accept) =
      .next (s.raiseFault .busConflict) := by
  rw [State.issue_free _ hs hf, State.issueOnPort_conflict _ _ hp hm hl]

/-- Settles O24: the three requests share the conflict branch of their issue step, and the bit it sets stops the block. -/
theorem busConflictStopsBlock : Obligations.BusConflictStopsBlock := by
  unfold Obligations.BusConflictStopsBlock
  intro s i hi hs hf hm hp hl
  refine ⟨?_, by simp [State.stopped]⟩
  simp only [List.mem_cons, List.not_mem_nil, or_false] at hi
  rcases hi with rfl | rfl | rfl <;> exact State.issue_busConflict _ hs hf hm hp hl

end Sys2Proof.Machine
end

section
/-! A failed frame in a SEQ step (60_exceptions.md R353, R354, R360): in every entry the statements that use the
transport come first, so a step either has no failed frame, or is the frames before the failed one, that frame, and what
it does to the operation. -/

namespace Sys2Proof.Machine

/-! Steps without a failed frame. -/

/-- From `s` to `t` events were added to the trace, none of them a failed frame. -/
def NoFailure (s t : State) : Prop :=
  ∃ evs, t.trace = s.trace ++ evs ∧ ∀ dc l, Event.frame dc l false ∉ evs

theorem NoFailure.refl (s : State) : NoFailure s s := ⟨[], by simp, by simp⟩

theorem NoFailure.trans {s t u : State} (h : NoFailure s t) (k : NoFailure t u) : NoFailure s u := by
  obtain ⟨p, hp, hpf⟩ := h
  obtain ⟨q, hq, hqf⟩ := k
  exact ⟨p ++ q, by simp [hq, hp], fun dc l hm => (List.mem_append.mp hm).elim (hpf dc l) (hqf dc l)⟩

/-- Frames answered with success. -/
theorem Sent.noFailure {s t : State} {pre : List Event} (h : Sent s t pre) : NoFailure s t := by
  obtain ⟨hpre, e, -, rfl⟩ := h
  refine ⟨pre, rfl, fun dc l hm => ?_⟩
  obtain ⟨dc', l', he⟩ := hpre _ hm
  cases he

/-- Frames that succeed leave the transport as it answers. -/
theorem Sent.tpSilent {s t : State} {pre : List Event} (h : Sent s t pre) : t.env.tpSilent = s.env.tpSilent := by
  obtain ⟨-, e, he, rfl⟩ := h
  exact he

/-- No failed frame stands in the part of the trace that was added. -/
theorem NoFailure.not_mem_drop {s t : State} (h : NoFailure s t) (dc : Select) (l : List Byte) :
    Event.frame dc l false ∉ t.trace.drop s.trace.length := by
  obtain ⟨evs, ht, hf⟩ := h
  rw [ht, List.drop_left]
  exact hf dc l

/-! Statements that do not use the transport. -/

/-- Answering a list of agents adds their responses to the trace, whoever holds the port. -/
theorem State.answerAll_trace (s : State) (hs : List Nat) :
    (s.answerAll hs).trace = s.trace ++ hs.map (fun h => .resp h .ok) := by
  unfold State.answerAll
  induction hs generalizing s with
  | nil => simp
  | cons h hs ih => rw [List.foldl_cons, ih, State.respond_eq]; simp

/-- COMPLETE adds the responses to the waiters and `Done` to the trace, whoever holds the port. -/
theorem State.complete_trace (s : State) :
    s.complete.trace = s.trace ++ (s.answerOrder.map (fun h => .resp h .ok) ++ [.done]) := by
  simp [State.complete, State.fire, State.answerAll_trace]

theorem State.complete_noFailure (s : State) : NoFailure s s.complete :=
  ⟨_, s.complete_trace, by simp⟩

theorem State.finish_noFailure (s : State) : NoFailure s s.finish := by
  unfold State.finish
  split
  · exact .refl _
  · exact ⟨[.resp _ .ok], by rw [State.respond_eq]; rfl, by simp⟩
  · exact ⟨[.resp _ .ok], by rw [State.respond_eq]; rfl, by simp⟩

/-- A statement that does not use the transport adds no frame. -/
theorem State.runStmt_noFailure (s : State) {c : Stmt} (hc : Stmt.usesTransport c = false) :
    NoFailure s (s.runStmt c) := by
  cases c with
  | send i => cases hc
  | row => cases hc
  | setRst v => exact ⟨[.rst v], rfl, by simp⟩
  | delay ms => exact ⟨[.delay ms], rfl, by simp⟩
  | yield => exact ⟨[.yield], rfl, by simp⟩
  | poll =>
    cases hb : s.busyInput with
    | true => exact ⟨[.busy true, .delay Config.tPoll], by rw [State.runStmt_poll_busy hb], by simp⟩
    | false => exact ⟨[.busy false], by rw [State.runStmt_poll_ready hb], by simp⟩
  | coopPoll =>
    have hsample : NoFailure s s.sampleBusy := ⟨[.busy s.busyInput], rfl, by simp⟩
    refine hsample.trans ?_
    cases hb : s.busyInput with
    | true => exact ⟨[.delay Config.tPoll], by simp [State.runStmt, hb, State.delay], by simp⟩
    | false => exact State.runStmt_coopPoll_ready hb ▸ s.sampleBusy.complete_noFailure
  | advance => exact .refl s
  | next again exit => exact .refl s
  | configured => exact .refl s
  | asleep => exact .refl s
  | finish => exact s.finish_noFailure

/-- Statements none of which uses the transport add no frame, whether or not the operation ends among them. -/
theorem State.runStmts_noFailure (s : State) {cs : List Stmt} (hcs : cs.any Stmt.usesTransport = false) :
    NoFailure s (s.runStmts cs) := by
  induction cs generalizing s with
  | nil => exact .refl s
  | cons c cs ih =>
    obtain ⟨hc, hcs⟩ := Bool.or_eq_false_iff.mp hcs
    have hhead := s.runStmt_noFailure hc
    cases hl : (s.runStmt c).live with
    | true => exact State.runStmts_cons_live cs hl ▸ hhead.trans (ih _ hcs)
    | false => exact State.runStmts_cons_ended cs hl ▸ hhead

/-! Entries. -/

/-- The shape of every entry of the step tables: panel commands, then at most one row, then statements that do not use
the transport. -/
def framesFirst : List Stmt → Bool
  | [] => true
  | .send i :: cs => !i.isRequest && framesFirst cs
  | _ :: cs => !cs.any Stmt.usesTransport

theorem stepTable_framesFirst {op : Operation} {pc : Nat} {body : List Stmt} (hb : (stepTable op)[pc]? = some body) :
    framesFirst body = true := by
  have entries : (stepTable op).all framesFirst = true := by cases op <;> decide
  exact List.all_eq_true.mp entries body (List.mem_of_getElem? hb)

/-- A panel command of a step table: its frames are all sent, or one fails. -/
theorem State.runStmt_send_cases {s : State} {i : Instr} (hi : i.isRequest = false) (hl : s.live = true)
    (ht : s.env.tpSilent = false) :
    (∃ pre, Sent s (s.runStmt (.send i)) pre) ∨ SendFailed s (s.runStmt (.send i)) := by
  have hentry : s.runStmts (sendSeq [i] ++ []) = s.runStmt (.send i) := State.runStmts_single s _
  rw [← hentry]
  rcases State.runStmts_sends [i] [] (by simpa using hi) hl ht with ⟨t, pre, hsent, hrun⟩ | hfail
  · exact .inl ⟨pre, hrun ▸ hsent⟩
  · exact .inr hfail

/-- A statement that sends no command: no frame fails, or it is a row whose frame does. -/
theorem State.runStmt_cases_of_not_send {s : State} {c : Stmt} (hc : ∀ i, c ≠ .send i) (hl : s.live = true) :
    NoFailure s (s.runStmt c) ∨ SendFailed s (s.runStmt c) := by
  cases c with
  | send i => exact absurd rfl (hc i)
  | row => exact (State.sendRow_cases hl).imp_left fun hsent => hsent.noFailure
  | _ => exact .inl (s.runStmt_noFailure rfl)

/-- A statement in which a frame failed is the last of its step; otherwise the rest of the entry decides. -/
theorem State.runStmts_cons_cases {s : State} {c : Stmt} {cs : List Stmt}
    (hhead : NoFailure s (s.runStmt c) ∨ SendFailed s (s.runStmt c))
    (htail : NoFailure (s.runStmt c) ((s.runStmt c).runStmts cs)) :
    NoFailure s (s.runStmts (c :: cs)) ∨ SendFailed s (s.runStmts (c :: cs)) := by
  cases hl : (s.runStmt c).live with
  | false => rwa [State.runStmts_cons_ended cs hl]
  | true =>
    rw [State.runStmts_cons_live cs hl]
    rcases hhead with hok | hfail
    · exact .inl (hok.trans htail)
    · exact absurd hl (by simp [hfail.not_live])

/-- What an entry can do, by the statements at its head: the commands are sent one after another, and after the first
other statement no frame is left to fail. -/
theorem State.runStmts_cases {s : State} {body : List Stmt} (hb : framesFirst body = true) (hl : s.live = true)
    (ht : s.env.tpSilent = false) : NoFailure s (s.runStmts body) ∨ SendFailed s (s.runStmts body) := by
  fun_induction framesFirst body generalizing s with
  | case1 => exact .inl (.refl s)
  | case2 i cs ih =>
    obtain ⟨hi, hcs⟩ := Bool.and_eq_true_iff.mp hb
    rcases State.runStmt_send_cases (Bool.eq_false_of_not_eq_true' hi) hl ht with ⟨pre, hsent⟩ | hfail
    · have hlive := hsent.live.trans hl
      rw [State.runStmts_cons_live cs hlive]
      exact (ih hcs hlive (hsent.tpSilent.trans ht)).imp hsent.noFailure.trans hsent.failed
    · rw [State.runStmts_cons_ended cs hfail.not_live]
      exact .inr hfail
  | case3 c cs hc =>
    exact State.runStmts_cons_cases (State.runStmt_cases_of_not_send hc hl)
      (State.runStmts_noFailure _ (Bool.eq_false_of_not_eq_true' hb))

/-- What SEQ's step from an entry can do, whether or not the transport answers. -/
theorem State.runEntry_cases {s t : State} {body : List Stmt} (hb : framesFirst body = true) (hl : s.live = true)
    (h : s.runEntry s body = .next t) : NoFailure s t ∨ SendFailed s t := by
  cases hu : body.any Stmt.usesTransport with
  | false =>
    rw [State.runEntry_of_no_transport hu] at h
    cases h
    exact .inl (s.runStmts_noFailure hu)
  | true =>
    unfold State.runEntry at h
    split at h
    case isTrue =>
      cases h
      exact .inl (.refl s)
    case isFalse hsilent =>
      split at h <;> cases h
      exact State.runStmts_cases hb hl (by simpa [hu] using hsilent)

/-! The step. -/

/-- A SEQ turn that adds a failed frame to the trace ends where that frame fails. -/
theorem step_sendFailed {s t : State} {op : Operation} {h pc : Nat} (ht : s.nextTurn = .agent .seq)
    (hq : s.seq = .run op h pc) (hstep : step s = .next t)
    (hf : ∃ dc l, Event.frame dc l false ∈ t.trace.drop s.trace.length) : SendFailed s.takeTurn t := by
  obtain ⟨dc, l, hmem⟩ := hf
  cases hs : s.stopped with
  | true =>
    rw [step_stopped ht hs] at hstep
    cases hstep
  | false =>
    rw [step_seq ht hs] at hstep
    cases hb : (stepTable op)[pc]? with
    | none => simp [State.seqStep, hq, hb] at hstep
    | some body =>
      rw [State.seqStep_run (s := s.takeTurn) hq hb] at hstep
      have hlive : s.takeTurn.live = true := State.live_of_run hs hq
      rcases State.runEntry_cases (stepTable_framesFirst hb) hlive hstep with hok | hfail
      · exact absurd hmem (hok.not_mem_drop dc l)
      · exact hfail

/-- Where every event is a frame answered with success, no frame has another result. -/
theorem ok_of_mem_frames {pre : List Event} (hpre : ∀ ev ∈ pre, ∃ dc l, ev = Event.frame dc l true) :
    ∀ dc l ok, Event.frame dc l ok ∈ pre → ok = true := by
  intro dc l ok hm
  obtain ⟨dc', l', he⟩ := hpre _ hm
  cases he
  rfl

/-- R353 as a state equation: frames, the one that failed, `TRANSPORT_ERROR`, and the hold of the port ends. -/
theorem SendFailed.holding {s t : State} {op : Operation} {h pc : Nat} (k : SendFailed s t)
    (hq : s.seq = .run op h pc) (hop : op ≠ .refreshCoop) (hp : s.port = .held h) :
    ∃ e pre dc l, (∀ dc l ok, Event.frame dc l ok ∈ pre → ok = true) ∧ t = { s with
      env := e
      trace := s.trace ++ pre ++ [.frame dc l false, .resp h .transportError]
      panel := .undefined
      seq := .idle
      hosts := s.hosts.modify h (fun r => r.setSt .free)
      port := .free } := by
  obtain ⟨e, pre, dc, l, hpre, rfl⟩ := k
  refine ⟨e, pre, dc, l, ok_of_mem_frames hpre, ?_⟩
  refine (State.abort_holding (by exact hq) hop).trans ?_
  simp [State.respond_eq, State.setSeq, hp]

/-- R354 as a state equation: frames, the one that failed, and `Fault(TRANSPORT)`. -/
theorem SendFailed.background {s t : State} {h pc : Nat} (k : SendFailed s t) (hq : s.seq = .run .refreshCoop h pc) :
    ∃ e pre dc l, (∀ dc l ok, Event.frame dc l ok ∈ pre → ok = true) ∧ t = { s with
      env := e
      trace := s.trace ++ pre ++ [.frame dc l false, .fault .transport]
      panel := .undefined
      faultTp := true } := by
  obtain ⟨e, pre, dc, l, hpre, rfl⟩ := k
  refine ⟨e, pre, dc, l, ok_of_mem_frames hpre, (State.abort_coop (by exact hq)).trans ?_⟩
  simp

/-- Settles O47: the step ends where its frame fails, and there the operation holds the port. -/
theorem failedFrameEndsStep : Obligations.FailedFrameEndsStep := by
  unfold Obligations.FailedFrameEndsStep
  intro s t op h pc ht hq hop hp hstep hf
  obtain ⟨e, pre, dc, l, hpre, rfl⟩ := (step_sendFailed ht hq hstep hf).holding hq hop hp
  exact ⟨rfl, rfl, rfl, rfl, rfl, rfl, rfl, pre, dc, l, rfl, hpre⟩

/-- The meaning of a panel command is the sending of its own opcode and some parameter bytes. -/
theorem exec_seqCmd_of_not_request {i : Instr} (s : State) (hi : i.isRequest = false) :
    ∃ op l, encode s.cfg.ops i = .frame (commandFrame op) ∧ exec i s = s.seqCmd op l := by
  cases i with
  | init | refresh | powerOn | sleep | waitReady | waitDone | reserved0 | reserved7 | reserved8 => cases hi
  | _ => exact ⟨_, _, rfl, rfl⟩

/-- A host request has no frame for its code. -/
theorem isRequest_eq_false_of_encode {o : Opcodes} {i : Instr} {f : Frame} (he : encode o i = .frame f) :
    i.isRequest = false := by
  cases i with
  | init | refresh | powerOn | sleep | waitReady | waitDone | reserved0 | reserved7 | reserved8 => cases he
  | _ => rfl

/-- An instruction encoded as a command frame sends the opcode of that frame. -/
theorem exec_seqCmd_of_encode {s : State} {i : Instr} {op : Byte}
    (he : encode s.cfg.ops i = .frame ⟨.command, [op]⟩) : ∃ l, exec i s = s.seqCmd op l := by
  obtain ⟨op', l, henc, hexec⟩ := exec_seqCmd_of_not_request s (isRequest_eq_false_of_encode he)
  cases henc.symm.trans he
  exact ⟨l, hexec⟩

/-- A panel command whose command frame fails is that frame alone. -/
theorem exec_command_failed {s : State} {i : Instr} {op : Byte} (he : encode s.cfg.ops i = .frame ⟨.command, [op]⟩)
    (hl : s.live = true) (ht : s.env.tpSilent = false) (hr : s.tpResult = false) :
    exec i s = .next (State.abort { s with
      env := s.env.takeOk
      trace := s.trace ++ [.frame .command [op] false]
      panel := .undefined }) := by
  obtain ⟨l, hexec⟩ := exec_seqCmd_of_encode he
  have hframe := State.sendFrame_failed .command [op] hr
  have hfail : SendFailed s (s.sendFrame .command [op]) :=
    ⟨s.env.takeOk, [], .command, [op], by simp, by simpa using hframe⟩
  rw [hexec, State.seqCmd_live op l hl ht, State.cmd_of_not_live l hfail.not_live, hframe]

/-- Settles O35: a failed command frame by the meaning of the command, any failed frame of a step by where it ends. -/
theorem backgroundFailureStopsBlock : Obligations.BackgroundFailureStopsBlock := by
  unfold Obligations.BackgroundFailureStopsBlock
  constructor
  · intro s i op h pc he hs hq ht hr
    have habort := State.abort_coop (s := { s with
      env := s.env.takeOk
      trace := s.trace ++ [.frame .command [op] false]
      panel := .undefined }) hq
    rw [exec_command_failed he (State.live_of_run hs hq) ht hr, habort]
    simp
  · intro s t h pc ht hq hstep hf
    obtain ⟨e, pre, dc, l, hpre, rfl⟩ := (step_sendFailed ht hq hstep hf).background hq
    exact ⟨rfl, rfl, rfl, rfl, rfl, rfl, rfl, pre, dc, l, rfl, hpre⟩

end Sys2Proof.Machine
end

section
/-! Decoding and encoding (30_encoding.md R100 to R110): the request words on one side, the panel command map, read from
opcode to command and from command to opcode, on the other. -/

namespace Sys2Proof

/-! Request words. -/

/-- A reserved word with bit 3 set is none of the eight words R101 and R107 name one by one. -/
theorem decodeRequest_of_bit3 : ∀ {w : ReqWord}, w.getLsbD 3 = true → decodeRequest w = .reserved8 w := by
  decide

/-- Every word decodes to a well-formed request. -/
theorem decodeRequest_wf : ∀ w : ReqWord, (decodeRequest w).wf = true := by
  decide

/-- Every word is the code of the request it decodes to, whatever the opcodes. -/
theorem encode_decodeRequest (o : Opcodes) (w : ReqWord) : encode o (decodeRequest w) = .request w := by
  unfold decodeRequest
  split_ifs with h0 h1 h2 h3 h4 h5 h6 h7
  case neg => rfl
  all_goals
    subst w
    rfl

/-! The panel command map. -/

/-- The keys of the map are the 18 opcodes in their order. -/
theorem panelTable_map_fst (o : Opcodes) : (panelTable o).map Prod.fst = o.all := rfl

/-- Each row of the map is a command with its own opcode. -/
theorem encode_of_mem_panelTable {o : Opcodes} {b : Byte} {i : Instr} (h : (b, i) ∈ panelTable o) :
    i.wf = true ∧ encode o i = .frame (commandFrame b) := by
  have rows : ∀ e ∈ panelTable o, e.2.wf = true ∧ encode o e.2 = .frame (commandFrame e.1) := by
    simp [panelTable, Instr.wf, encode]
  exact rows (b, i) h

/-- Each panel command has a row of the map. -/
theorem exists_mem_panelTable (o : Opcodes) {i : Instr} (hi : i.isRequest = false) :
    ∃ b, encode o i = .frame (commandFrame b) ∧ (b, i) ∈ panelTable o := by
  cases i with
  | init | refresh | powerOn | sleep | waitReady | waitDone | reserved0 | reserved7 | reserved8 => cases hi
  | _ => exact ⟨_, rfl, by simp [panelTable]⟩

/-- In a list whose keys are pairwise distinct, each pair is the first with its key. -/
theorem lookup_eq_some_of_mem {l : List (Byte × Instr)} (hl : (l.map Prod.fst).Nodup) {b : Byte} {i : Instr}
    (h : (b, i) ∈ l) : l.lookup b = some i := by
  obtain ⟨l₁, l₂, rfl⟩ := List.append_of_mem h
  refine List.lookup_eq_some_iff.mpr ⟨l₁, l₂, rfl, fun p hp => ?_⟩
  rw [List.map_append, List.nodup_append] at hl
  have hne : p.1 ≠ b := hl.2.2 p.1 (List.mem_map_of_mem hp) b (by simp)
  simpa using hne.symm

/-- An opcode that decodes has its row in the map. -/
theorem mem_panelTable_of_decodeOpcode {o : Opcodes} {b : Byte} {i : Instr} (h : decodeOpcode o b = .ok i) :
    (b, i) ∈ panelTable o := by
  unfold decodeOpcode at h
  split at h
  case h_1 j hj =>
    cases h
    obtain ⟨l₁, l₂, hl, -⟩ := List.lookup_eq_some_iff.mp hj
    simp [hl]
  case h_2 => cases h

/-- An opcode outside the 18 has no row. -/
theorem decodeOpcode_of_not_mem {o : Opcodes} {b : Byte} (hb : b ∉ o.all) :
    decodeOpcode o b = .error .notEmitted := by
  have hnone : (panelTable o).lookup b = none := by
    refine List.lookup_eq_none_iff.mpr fun p hp => ?_
    have hmem : p.1 ∈ o.all := List.mem_map_of_mem hp
    simpa using fun hbp : b = p.1 => hb (hbp ▸ hmem)
  rw [decodeOpcode, hnone]

/-- A frame that decodes is a command frame of one opcode, which has its row. -/
theorem mem_panelTable_of_decodeFrame {o : Opcodes} {f : Frame} {i : Instr} (h : decodeFrame o f = .ok i) :
    ∃ b, f = commandFrame b ∧ (b, i) ∈ panelTable o := by
  obtain ⟨dc, bytes⟩ := f
  unfold decodeFrame at h
  split at h
  case h_1 => cases h
  case h_2 b hdc hbytes =>
    cases hdc
    cases hbytes
    exact ⟨b, rfl, mem_panelTable_of_decodeOpcode h⟩
  case h_3 => cases h

/-! The statements. -/

/-- Settles O2: a request word is read by its own value, an opcode by the one row that has it, the opcodes being
distinct. -/
theorem decodeOfEncode : Obligations.DecodeOfEncode := by
  unfold Obligations.DecodeOfEncode
  intro o i ho hi
  cases hr : i.isRequest with
  | false =>
    obtain ⟨b, he, hmem⟩ := exists_mem_panelTable o hr
    have hlookup : (panelTable o).lookup b = some i :=
      lookup_eq_some_of_mem (by rw [panelTable_map_fst]; exact ho) hmem
    rw [he]
    simp only [decode, decodeFrame, commandFrame, decodeOpcode, hlookup]
  | true =>
    cases i with
    | reserved8 code => exact congrArg Except.ok (decodeRequest_of_bit3 hi)
    | init | refresh | powerOn | sleep | waitReady | waitDone | reserved0 | reserved7 => rfl
    | _ => cases hr

/-- Settles O3: a word is the code of its request; a frame that decodes has a row of the map, and so is that row's
command's own. -/
theorem encodeOfDecode : Obligations.EncodeOfDecode := by
  unfold Obligations.EncodeOfDecode
  intro o c i h
  cases c with
  | request w =>
    cases h
    exact ⟨decodeRequest_wf w, encode_decodeRequest o w⟩
  | frame f =>
    obtain ⟨b, rfl, hmem⟩ := mem_panelTable_of_decodeFrame h
    exact encode_of_mem_panelTable hmem

/-- Settles O4: the three kinds of frame fall to the three rejecting branches of the decoder. -/
theorem nonCommandsRejectedByName : Obligations.NonCommandsRejectedByName := by
  unfold Obligations.NonCommandsRejectedByName
  intro o
  refine ⟨fun b hb => decodeOpcode_of_not_mem hb, fun l => rfl, fun l hl => ?_⟩
  match l with
  | [] => rfl
  | [b] => exact absurd rfl hl
  | b :: c :: l => rfl

/-- Data frames before what is read join the data frames that stand first there. -/
theorem readFrames_data_append (ls : List (List Byte)) {fs : List Frame} {d : List (List Byte)} {cs : List Command}
    (h : readFrames fs = some (d, cs)) :
    readFrames (ls.map (fun l => ⟨.data, l⟩) ++ fs) = some (ls ++ d, cs) := by
  induction ls with
  | nil => exact h
  | cons l ls ih =>
    rw [List.map_cons, List.cons_append, readFrames, ih]
    rfl

/-- Settles O5: the last command first, its data frames before it, as the reader goes. -/
theorem framesReadBackAsCommands : Obligations.FramesReadBackAsCommands := by
  unfold Obligations.FramesReadBackAsCommands
  intro cs
  induction cs with
  | nil => rfl
  | cons c cs ih =>
    rw [List.flatMap_cons, Command.frames, List.cons_append, readFrames, readFrames_data_append c.data ih]
    simp [commandFrame]

/-- Settles O1: literal words of the tables. -/
theorem specWordsDecode : Obligations.SpecWordsDecode := by
  unfold Obligations.SpecWordsDecode
  decide

/-- Settles O6: four responses and eight codes, each looked up. -/
theorem responseCodes : Obligations.ResponseCodes := by
  unfold Obligations.ResponseCodes
  refine ⟨rfl, rfl, rfl, rfl, fun r => ?_, by decide⟩
  cases r <;> rfl

end Sys2Proof
end

section
/-! What a step can do, in one inversion lemma for each kind of step: the issue step of a request, a panel command, a
host agent's step, and SEQ's step. Frames and invariants are read off these. -/

namespace Sys2Proof.Machine

/-! Host agents. -/

/-- The part of each host agent that is not its status: its program and what its reads gave it (log 13). -/
def State.programs (s : State) : List (List HostAction × Option Byte × List Byte) :=
  s.hosts.map (fun r => (r.prog, r.status, r.data))

/-- An update of one host agent leaves any list of values read off the agents that it does not change. -/
theorem map_modify_eq_map {β : Type} (l : List HostAgent) (h : Nat) {f : HostAgent → HostAgent} {p : HostAgent → β}
    (hf : ∀ r, p (f r) = p r) : (l.modify h f).map p = l.map p := by
  refine List.ext_getElem? fun n => ?_
  simp only [List.getElem?_map, List.getElem?_modify]
  split <;> cases l[n]? <;> simp [hf]

/-- A change of status leaves what a host agent does next and what it has read. -/
@[simp] theorem State.setSt_programs (s : State) (h : Nat) (st : HostStatus) :
    (s.setSt h st).programs = s.programs :=
  map_modify_eq_map s.hosts h fun _ => rfl

@[simp] theorem State.respond_programs (s : State) (h : Nat) (c : Response) :
    (s.respond h c).programs = s.programs := by
  rw [State.respond_eq]
  exact s.setSt_programs h .free

/-- The statuses after a change of one. -/
theorem State.st?_setSt (s : State) (h g : Nat) (st : HostStatus) :
    (s.setSt h st).st? g = if g = h then (s.st? g).map (fun _ => st) else s.st? g := by
  simp only [State.st?, State.setSt_hosts, st_modify, Option.map_map]
  rfl

/-- The same where the host agent is there. -/
theorem State.st?_setSt_of_some {s : State} {h : Nat} {st : HostStatus} (hst : s.st? h = some st) (st' : HostStatus)
    (g : Nat) : (s.setSt h st').st? g = if g = h then some st' else s.st? g := by
  rw [State.st?_setSt]
  by_cases hg : g = h
  · subst hg
    simp [hst]
  · rw [if_neg hg, if_neg hg]

/-! Requests. -/

/-- What the issue step of the request `i` by a free agent does, once it has one (30_encoding.md R111). -/
inductive Issued (s : State) : Instr → State → Prop
  /-- `Fault(BUS_CONFLICT)` (60_exceptions.md R356). -/
  | conflict {i : Instr} (hi : i ∈ [Instr.init, .powerOn, .sleep]) : Issued s i (s.raiseFault .busConflict)
  /-- `BUSY` or `ILLEGAL` (44_refresh.md R275, 60_exceptions.md R352). -/
  | answered {i : Instr} (c : Response) (hi : i ∉ [Instr.init, .powerOn, .sleep]) : Issued s i (s.answer c)
  /-- Acceptance by the port (R111), with the row and the panel bookkeeping of the request. -/
  | accepted (op : Operation) (row : Nat) (panel : Panel) (hop : op ≠ .refreshCoop) (hport : s.port = .free)
      (hflag : ¬(s.mode = .coop ∧ s.lbusy = true)) (hsync : op = .refreshSync → s.mode = .sync ∧ row = 0)
      (hrow : op ≠ .refreshSync → row = s.row) (hpanel : op ≠ .refreshSync → op ≠ .powerOn → panel = s.panel) :
      Issued s op.request (((s.accept op.request op).setRow row).setPanel panel)
  /-- Acceptance of a `COOP` REFRESH (44_refresh.md R275). -/
  | background (hport : s.port = .free) (hmode : s.mode = .coop) (hflag : s.lbusy = false) :
      Issued s .refresh s.acceptCoop
  /-- WAIT_READY (43_busy_monitor.md R246). -/
  | waitsReady : Issued s .waitReady (s.setSt s.issuer (.waitReady (decide (s.mode = .coop))))
  /-- WAIT_DONE in `COOP` mode (43_busy_monitor.md R249). -/
  | waitsDone (hmode : s.mode = .coop) :
      Issued s .waitDone ((s.setWaiters (insertId s.issuer s.waiters)).setSt s.issuer .waitDone)

/-- A request that answers a next state did nothing, or was a free agent's and did what its issue step says. -/
theorem State.issue_next {s t : State} {f : State → State} (h : s.issue f = .next t) :
    t = s ∨ (s.st? s.issuer = some .free ∧ t = f s) := by
  rcases s.issue_cases f with ⟨-, e⟩ | ⟨-, -, e⟩ | ⟨-, hf, e⟩ <;> rw [e] at h <;> cases h
  · exact .inl rfl
  · exact .inr ⟨of_decide_eq_true hf, rfl⟩

/-- A port-using request that answers a next state did nothing, or its conflict or its acceptance. -/
theorem State.issueOnPort_next {s t : State} {conflict accept : State → State}
    (h : s.issue (fun u => u.issueOnPort conflict accept) = .next t) :
    t = s ∨ (s.st? s.issuer = some .free ∧ s.port = .free ∧
      ((s.mode = .coop ∧ s.lbusy = true ∧ t = conflict s) ∨ (¬(s.mode = .coop ∧ s.lbusy = true) ∧ t = accept s))) := by
  rcases State.issue_next h with rfl | ⟨hf, rfl⟩
  · exact .inl rfl
  · rcases s.issueOnPort_cases conflict accept with ⟨-, e⟩ | ⟨hp, hm, hl, e⟩ | ⟨hp, hn, e⟩
    · exact .inl e
    · exact .inr ⟨hf, hp, .inl ⟨hm, hl, e⟩⟩
    · exact .inr ⟨hf, hp, .inr ⟨hn, e⟩⟩

/-- REFRESH: `BUSY`, or an acceptance by mode. -/
theorem issued_of_execRefresh {s t : State} (h : execRefresh s = .next t) :
    t = s ∨ (s.st? s.issuer = some .free ∧ Issued s .refresh t) := by
  rcases State.issueOnPort_next h with e | ⟨hf, hp, ⟨-, -, rfl⟩ | ⟨hn, rfl⟩⟩
  · exact .inl e
  · exact .inr ⟨hf, .answered .busy (by decide)⟩
  · refine .inr ⟨hf, ?_⟩
    cases hm : s.mode with
    | coop => exact .background hp hm (by simpa [hm] using hn)
    | sync =>
      dsimp only
      rw [State.bookkeep_eq]
      exact .accepted .refreshSync 0 _ (by decide) hp hn (fun _ => ⟨hm, rfl⟩) (by simp) (by simp)

/-- INIT, POWER_ON and SLEEP: their conflict is `Fault(BUS_CONFLICT)`. -/
theorem issued_of_issueOnPort {s t : State} {op : Operation} {accept : State → State} (panel : Panel)
    (hop : op.request ∈ [Instr.init, .powerOn, .sleep]) (hpanel : op ≠ .powerOn → panel = s.panel)
    (ha : accept s = ((s.accept op.request op).setRow s.row).setPanel panel)
    (h : s.issue (fun u => u.issueOnPort (fun u => u.raiseFault .busConflict) accept) = .next t) :
    t = s ∨ (s.st? s.issuer = some .free ∧ Issued s op.request t) := by
  rcases State.issueOnPort_next h with e | ⟨hf, hp, ⟨-, -, rfl⟩ | ⟨hn, rfl⟩⟩
  · exact .inl e
  · exact .inr ⟨hf, .conflict hop⟩
  · refine .inr ⟨hf, ha ▸ .accepted op s.row panel ?_ hp hn ?_ (fun _ => rfl) (fun _ => hpanel)⟩
    · rintro rfl
      simp [Operation.request] at hop
    · rintro rfl
      simp [Operation.request] at hop

/-- WAIT_DONE: `ILLEGAL`, or one waiter more. -/
theorem issued_of_execWaitDone {s t : State} (h : execWaitDone s = .next t) :
    t = s ∨ (s.st? s.issuer = some .free ∧ Issued s .waitDone t) := by
  rcases State.issue_next h with e | ⟨hf, rfl⟩
  · exact .inl e
  · refine .inr ⟨hf, ?_⟩
    cases hm : s.mode with
    | sync => exact .answered .illegal (by decide)
    | coop => exact .waitsDone hm

/-- A request that is answered `ILLEGAL` in every state. -/
theorem issued_of_issue_illegal {s t : State} {i : Instr} (hi : i ∉ [Instr.init, .powerOn, .sleep])
    (h : s.issue (fun u => u.answer .illegal) = .next t) :
    t = s ∨ (s.st? s.issuer = some .free ∧ Issued s i t) :=
  (State.issue_next h).imp id fun ⟨hf, e⟩ => ⟨hf, e ▸ .answered .illegal hi⟩

/-- Any request. -/
theorem issued_of_exec {i : Instr} {s t : State} (hi : i.isRequest = true) (h : exec i s = .next t) :
    t = s ∨ (s.st? s.issuer = some .free ∧ Issued s i t) := by
  cases i <;> rw [exec] at h
  case init => exact issued_of_issueOnPort (op := .init) s.panel (by decide) (fun _ => rfl) rfl h
  case sleep => exact issued_of_issueOnPort (op := .sleep) s.panel (by decide) (fun _ => rfl) rfl h
  case powerOn => exact issued_of_issueOnPort (op := .powerOn) _ (by decide) (by simp) (State.bookkeep_eq _) h
  case refresh => exact issued_of_execRefresh h
  case waitReady => exact (State.issue_next h).imp id fun ⟨hf, e⟩ => ⟨hf, e ▸ .waitsReady⟩
  case waitDone => exact issued_of_execWaitDone h
  case reserved0 => exact issued_of_issue_illegal (by decide) h
  case reserved7 => exact issued_of_issue_illegal (by decide) h
  case reserved8 code => exact issued_of_issue_illegal (by simp) h
  all_goals cases hi

/-! Panel commands. -/

/-- A panel command that answers a next state did nothing, or sent its frames for a running operation. -/
theorem State.seqCmd_next {s t : State} {op : Byte} {l : List Byte} (h : s.seqCmd op l = .next t) :
    t = s ∨ (s.live = true ∧ t = s.cmd op l) := by
  unfold State.seqCmd at h
  split at h
  case isTrue => cases h
  case isFalse hs =>
    split at h <;> cases h
    case isTrue => exact .inl rfl
    case isFalse hq =>
      refine .inr ⟨?_, rfl⟩
      simp only [Bool.or_eq_true, not_or, Bool.not_eq_true] at hs hq
      simp [State.live, hs, hq.1]

/-- What a panel command can do: nothing, all its frames, or the frames up to the one that failed. -/
theorem exec_panel_next {i : Instr} {s t : State} (hi : i.isRequest = false) (h : exec i s = .next t) :
    t = s ∨ (∃ pre, Sent s t pre) ∨ SendFailed s t := by
  obtain ⟨op, l, -, hexec⟩ := exec_seqCmd_of_not_request s hi
  rw [hexec] at h
  rcases State.seqCmd_next h with e | ⟨hl, rfl⟩
  · exact .inl e
  · exact .inr (State.cmd_cases op l hl)

/-! Host agents' steps. -/

/-- What the step of host agent `h` does, once it has one (10_state.md R45, 46_mode_mux.md R332). -/
inductive HostStepped (s : State) (h : Nat) : State → Prop
  /-- The issue of a request that the port does not hold off. -/
  | request {r : HostAgent} {w : ReqWord} {rest : List HostAction} {t : State} (hr : s.hosts[h]? = some r)
      (hprog : r.prog = .request w :: rest) (hexec : exec (decodeRequest w) (s.beginIssue h rest) = .next t) :
      HostStepped s h t
  /-- A STATUS read. -/
  | status (rest : List HostAction) : HostStepped s h ((s.setProg h rest).readStatus h)
  /-- A framebuffer write in range. -/
  | write {r : HostAgent} {a : Nat} {v : Byte} {rest : List HostAction} (hr : s.hosts[h]? = some r)
      (hst : r.st = .free) (hprog : r.prog = .write a v :: rest) (ha : a < Config.fbSize) :
      HostStepped s h ((s.setProg h rest).setFb (Memory.write s.fb a v))
  /-- A framebuffer read in range, which gave `l`. -/
  | read (rest : List HostAction) (l : List Byte) :
      HostStepped s h
        ((s.setProg h rest).setHosts ((s.setProg h rest).hosts.modify h fun r => { r with data := l }))
  /-- The first step of WAIT_READY in `COOP` mode. -/
  | yielded {r : HostAgent} (hr : s.hosts[h]? = some r) (hst : r.st = .waitReady true) :
      HostStepped s h (s.yield.setSt h (.waitReady false))
  /-- A poll of WAIT_READY. -/
  | polled {r : HostAgent} (hr : s.hosts[h]? = some r) (hst : r.st = .waitReady false) :
      HostStepped s h (s.pollReady h)

/-- The step of a free host agent. -/
theorem State.freeStep_next {s t : State} {h : Nat} {r : HostAgent} (hr : s.hosts[h]? = some r) (hst : r.st = .free)
    (hstep : s.freeStep h r.prog = .next t) : t = s ∨ HostStepped s h t := by
  unfold State.freeStep at hstep
  split at hstep
  case h_1 =>
    cases hstep
    exact .inl rfl
  case h_2 w rest hprog =>
    split at hstep
    · cases hstep
      exact .inl rfl
    · exact .inr (.request hr hprog hstep)
  case h_3 rest _ =>
    cases hstep
    exact .inr (.status rest)
  case h_4 a v rest hprog =>
    unfold State.hostWrite State.memWrite at hstep
    by_cases ha : a < Config.fbSize
    · rw [if_pos ha] at hstep
      cases hstep
      exact .inr (.write hr hst hprog ha)
    · rw [if_neg ha] at hstep
      cases hstep
  case h_5 a n rest _ =>
    unfold State.hostRead at hstep
    split at hstep <;> cases hstep
    exact .inr (.read rest _)

/-- A host agent's step that answers a next state did nothing, or is one of these. -/
theorem State.hostStep_next {s t : State} {h : Nat} (hstep : s.hostStep h = .next t) :
    t = s ∨ HostStepped s h t := by
  unfold State.hostStep at hstep
  split at hstep
  case h_1 =>
    cases hstep
    exact .inl rfl
  case h_2 r hr =>
    split at hstep
    case h_1 hst => exact State.freeStep_next hr hst hstep
    case h_2 hst =>
      cases hstep
      exact .inr (.yielded hr hst)
    case h_3 hst =>
      cases hstep
      exact .inr (.polled hr hst)
    case h_4 =>
      cases hstep
      exact .inl rfl
    case h_5 =>
      cases hstep
      exact .inl rfl

/-! SEQ's steps. -/

/-- A statement after which the operation runs on. -/
def Stmt.goesOn : Stmt → Bool
  | .coopPoll | .finish => false
  | .setRst _ | .delay _ | .yield | .send _ | .row | .poll | .advance | .next _ _ | .configured | .asleep => true

/-- Where such a statement, its frames sent, may leave SEQ: `(pc, S.row)` from `(pc, S.row)`. A poll has two ends. -/
def Stmt.moves : Stmt → Nat × Nat → List (Nat × Nat)
  | .advance, p => [(p.1 + 1, p.2)]
  | .next again exit, p => [(if p.2 < Config.height then again else exit, p.2)]
  | .row, p => [(p.1, p.2 + 1)]
  | .poll, p => [p, (p.1 + 1, p.2)]
  | .setRst _, p | .delay _, p | .yield, p | .send _, p | .coopPoll, p | .configured, p | .asleep, p | .finish, p => [p]

/-- The same for the statements of an entry. -/
def stmtsMoves : List Stmt → Nat × Nat → List (Nat × Nat)
  | [], p => [p]
  | c :: cs, p => (Stmt.moves c p).flatMap (stmtsMoves cs)

/-- `t` is `s` with the operation run on to `(pc, S.row)`; nothing else is written but the trace, the panel bookkeeping,
the RST level and the environment. -/
def Proceeds (s t : State) (op : Operation) (h : Nat) (p : Nat × Nat) : Prop :=
  ∃ env trace rst panel, t = { s with
    env := env
    trace := trace
    rst := rst
    panel := panel
    seq := .run op h p.1
    row := p.2 }

theorem Proceeds.trans {s t u : State} {op : Operation} {h : Nat} {p q : Nat × Nat} (k : Proceeds s t op h p)
    (k' : Proceeds t u op h q) : Proceeds s u op h q := by
  obtain ⟨e, l, r, x, rfl⟩ := k
  obtain ⟨e', l', r', x', rfl⟩ := k'
  exact ⟨e', l', r', x', rfl⟩

theorem Proceeds.seq {s t : State} {op : Operation} {h : Nat} {p : Nat × Nat} (k : Proceeds s t op h p) :
    t.seq = .run op h p.1 := by
  obtain ⟨e, l, r, x, rfl⟩ := k
  rfl

theorem Proceeds.row {s t : State} {op : Operation} {h : Nat} {p : Nat × Nat} (k : Proceeds s t op h p) :
    t.row = p.2 := by
  obtain ⟨e, l, r, x, rfl⟩ := k
  rfl

theorem Proceeds.live {s t : State} {op : Operation} {h : Nat} {p : Nat × Nat} (k : Proceeds s t op h p)
    (hs : s.stopped = false) : t.live = true := by
  refine State.live_of_run (op := op) (h := h) (pc := p.1) ?_ k.seq
  obtain ⟨e, l, r, x, rfl⟩ := k
  exact hs

theorem Proceeds.stopped {s t : State} {op : Operation} {h : Nat} {p : Nat × Nat} (k : Proceeds s t op h p) :
    t.stopped = s.stopped := by
  obtain ⟨e, l, r, x, rfl⟩ := k
  rfl

/-- Frames that succeed move SEQ nowhere. -/
theorem Sent.proceeds {s t : State} {pre : List Event} {op : Operation} {h pc : Nat} (k : Sent s t pre)
    (hq : s.seq = .run op h pc) : Proceeds s t op h (pc, s.row) := by
  obtain ⟨-, e, -, rfl⟩ := k
  exact ⟨e, s.trace ++ pre, s.rst, s.panel, by rw [← hq]⟩

/-- A statement that does not use the transport and does not end the operation. -/
theorem State.runStmt_proceeds {s : State} {c : Stmt} {op : Operation} {h pc : Nat} (hq : s.seq = .run op h pc)
    (hu : Stmt.usesTransport c = false) (hg : Stmt.goesOn c = true) :
    ∃ p ∈ Stmt.moves c (pc, s.row), Proceeds s (s.runStmt c) op h p := by
  cases c with
  | send i => cases hu
  | row => cases hu
  | coopPoll => cases hg
  | finish => cases hg
  | poll =>
    cases hb : s.busyInput with
    | true =>
      exact ⟨_, List.mem_cons_self, _, _, s.rst, s.panel, by rw [State.runStmt_poll_busy hb, ← hq]⟩
    | false =>
      exact ⟨(pc + 1, s.row), by simp [Stmt.moves], _, _, s.rst, s.panel, by
        rw [State.runStmt_poll_ready hb, hq]; rfl⟩
  | setRst v => exact ⟨_, List.mem_cons_self, s.env, _, v, s.panel, by rw [← hq]; rfl⟩
  | delay ms => exact ⟨_, List.mem_cons_self, s.env, _, s.rst, s.panel, by rw [← hq]; rfl⟩
  | yield => exact ⟨_, List.mem_cons_self, s.env, _, s.rst, s.panel, by rw [← hq]; rfl⟩
  | advance => exact ⟨_, List.mem_cons_self, s.env, s.trace, s.rst, s.panel, by rw [State.runStmt, hq]; rfl⟩
  | next again exit => exact ⟨_, List.mem_cons_self, s.env, s.trace, s.rst, s.panel, by rw [State.runStmt, hq]; rfl⟩
  | configured => exact ⟨_, List.mem_cons_self, s.env, s.trace, s.rst, .configured, by rw [← hq]; rfl⟩
  | asleep => exact ⟨_, List.mem_cons_self, s.env, s.trace, s.rst, _, by rw [← hq]; rfl⟩

/-- Statements of that kind. -/
theorem State.runStmts_proceeds {s : State} {cs : List Stmt} {op : Operation} {h pc : Nat} (hs : s.stopped = false)
    (hq : s.seq = .run op h pc) (hu : cs.any Stmt.usesTransport = false) (hg : cs.all Stmt.goesOn = true) :
    ∃ p ∈ stmtsMoves cs (pc, s.row), Proceeds s (s.runStmts cs) op h p := by
  induction cs generalizing s pc with
  | nil => exact ⟨_, List.mem_cons_self, s.env, s.trace, s.rst, s.panel, by rw [← hq]; rfl⟩
  | cons c cs ih =>
    obtain ⟨huc, hucs⟩ := Bool.or_eq_false_iff.mp hu
    obtain ⟨hgc, hgcs⟩ := Bool.and_eq_true_iff.mp hg
    obtain ⟨p, hp, k⟩ := State.runStmt_proceeds hq huc hgc
    obtain ⟨q, hq', k'⟩ := ih (k.stopped.trans hs) k.seq hucs hgcs
    rw [State.runStmts_cons_live cs (k.live hs)]
    rw [k.row] at hq'
    exact ⟨q, List.mem_flatMap.mpr ⟨p, hp, hq'⟩, k.trans k'⟩

/-- An entry whose statements all let the operation run on: it does, or one of its frames fails. -/
theorem State.runStmts_proceeds_or_failed {s : State} {body : List Stmt} {op : Operation} {h pc : Nat}
    (hb : framesFirst body = true) (hg : body.all Stmt.goesOn = true) (hs : s.stopped = false)
    (hq : s.seq = .run op h pc) (ht : s.env.tpSilent = false) :
    (∃ p ∈ stmtsMoves body (pc, s.row), Proceeds s (s.runStmts body) op h p) ∨ SendFailed s (s.runStmts body) := by
  have hl := State.live_of_run hs hq
  fun_induction framesFirst body generalizing s with
  | case1 => exact .inl (State.runStmts_proceeds hs hq rfl rfl)
  | case2 i cs ih =>
    obtain ⟨hi, hcs⟩ := Bool.and_eq_true_iff.mp hb
    rcases State.runStmt_send_cases (Bool.eq_false_of_not_eq_true' hi) hl ht with ⟨pre, hsent⟩ | hfail
    · have k := hsent.proceeds hq
      rw [State.runStmts_cons_live cs (k.live hs)]
      refine (ih hcs hg (k.stopped.trans hs) k.seq (hsent.tpSilent.trans ht) (k.live hs)).imp ?_ hsent.failed
      rintro ⟨p, hp, k'⟩
      rw [k.row] at hp
      exact ⟨p, by simpa [stmtsMoves, Stmt.moves] using hp, k.trans k'⟩
    · rw [State.runStmts_cons_ended cs hfail.not_live]
      exact .inr hfail
  | case3 c cs hc =>
    obtain ⟨hgc, hgcs⟩ := Bool.and_eq_true_iff.mp hg
    have hucs := Bool.eq_false_of_not_eq_true' hb
    cases c with
    | send i => exact absurd rfl (hc i)
    | row =>
      rcases State.sendRow_cases hl with hsent | hfail
      · have k : Proceeds s (s.runStmt .row) op h (pc, s.row + 1) := by
          obtain ⟨e, l, r, x, he⟩ := hsent.proceeds (pc := pc) (by exact hq)
          exact ⟨e, l, r, x, he⟩
        obtain ⟨q, hq', k'⟩ := State.runStmts_proceeds (k.stopped.trans hs) k.seq hucs hgcs
        rw [State.runStmts_cons_live cs (k.live hs)]
        rw [k.row] at hq'
        exact .inl ⟨q, by simpa [stmtsMoves, Stmt.moves] using hq', k.trans k'⟩
      · rw [State.runStmts_cons_ended (c := .row) cs hfail.not_live]
        exact .inr hfail
    | _ => exact .inl (State.runStmts_proceeds hs hq hucs hg)

/-- The entries by how their step can end: the operation runs on, fires, or is finished after statements without a
frame. -/
theorem stepTable_shapes {op : Operation} {pc : Nat} {body : List Stmt} (hb : (stepTable op)[pc]? = some body) :
    body.all Stmt.goesOn = true ∨ (op = .refreshCoop ∧ pc = 3 ∧ body = [.coopPoll]) ∨
      (op ≠ .refreshCoop ∧ body ∈ [[.finish], [.configured, .finish], [.asleep, .finish]]) := by
  have entries : ∀ e ∈ (stepTable op).zipIdx,
      e.1.all Stmt.goesOn = true ∨ (op = .refreshCoop ∧ e.2 = 3 ∧ e.1 = [.coopPoll]) ∨
        (op ≠ .refreshCoop ∧ e.1 ∈ [[.finish], [.configured, .finish], [.asleep, .finish]]) := by
    cases op <;> decide
  exact entries (body, pc) (List.mem_zipIdx_iff_getElem?.mpr hb)

/-- What SEQ's step from entry `pc` of `op`, run for host `h`, does (10_state.md R34). -/
inductive SeqStepped (s : State) (op : Operation) (h pc : Nat) : State → Prop
  /-- The transport returns no result (40_bus_primitives.md R144). -/
  | waits : SeqStepped s op h pc s
  /-- The operation runs on. -/
  | proceeds {body : List Stmt} {t : State} {p : Nat × Nat} (hb : (stepTable op)[pc]? = some body)
      (hp : p ∈ stmtsMoves body (pc, s.row)) (k : Proceeds s t op h p) : SeqStepped s op h pc t
  /-- The requester is answered and the port is free again. -/
  | finishes {u : State} (hop : op ≠ .refreshCoop) (k : Proceeds s u op h (pc, s.row)) : SeqStepped s op h pc u.finish
  /-- COMPLETE of the background refresh (44_refresh.md R277). -/
  | completes (hop : op = .refreshCoop) (hpc : pc = 3) (hb : s.busyInput = false) :
      SeqStepped s op h pc s.sampleBusy.complete
  /-- A frame of the step fails. -/
  | fails {t : State} (k : SendFailed s t) : SeqStepped s op h pc t

/-- The three entries that finish an operation. -/
theorem State.runStmts_finishes {s : State} {body : List Stmt} {op : Operation} {h pc : Nat} (hs : s.stopped = false)
    (hq : s.seq = .run op h pc) (hb : body ∈ [[.finish], [.configured, .finish], [.asleep, .finish]]) :
    ∃ u, Proceeds s u op h (pc, s.row) ∧ s.runStmts body = u.finish := by
  have head : ∀ c ∈ [Stmt.configured, .asleep], Proceeds s (s.runStmt c) op h (pc, s.row) ∧
      s.runStmts [c, .finish] = (s.runStmt c).finish := by
    intro c hc
    have k : Proceeds s (s.runStmt c) op h (pc, s.row) := by
      simp only [List.mem_cons, List.not_mem_nil, or_false] at hc
      rcases hc with rfl | rfl <;> exact ⟨s.env, s.trace, s.rst, _, by rw [← hq]; rfl⟩
    exact ⟨k, by rw [State.runStmts_cons_live _ (k.live hs), State.runStmts_single]; rfl⟩
  simp only [List.mem_cons, List.not_mem_nil, or_false] at hb
  rcases hb with rfl | rfl | rfl
  · exact ⟨s, ⟨s.env, s.trace, s.rst, s.panel, by rw [← hq]⟩, State.runStmts_single ..⟩
  · exact ⟨_, head .configured (by simp)⟩
  · exact ⟨_, head .asleep (by simp)⟩

/-- The busy poll of the background refresh, by its sample. -/
theorem State.runStmt_coopPoll_stepped {s : State} {h : Nat} (hq : s.seq = .run .refreshCoop h 3) :
    SeqStepped s .refreshCoop h 3 (s.runStmt .coopPoll) := by
  cases hb : s.busyInput with
  | true =>
    refine .proceeds (p := (3, s.row)) rfl List.mem_cons_self
      ⟨s.env.takeBusy, s.trace ++ [.busy true] ++ [.delay Config.tPoll], s.rst, s.panel, ?_⟩
    rw [← hq]
    simp [State.runStmt, hb, State.sampleBusy_eq, State.delay, State.emit, State.setTrace]
  | false =>
    rw [State.runStmt_coopPoll_ready hb]
    exact .completes rfl rfl hb

/-- SEQ's step from an entry whose transport, where it has a frame, answers. -/
theorem State.runStmts_stepped {s : State} {body : List Stmt} {op : Operation} {h pc : Nat} (hs : s.stopped = false)
    (hq : s.seq = .run op h pc) (hb : (stepTable op)[pc]? = some body)
    (ht : body.any Stmt.usesTransport = true → s.env.tpSilent = false) :
    SeqStepped s op h pc (s.runStmts body) := by
  rcases stepTable_shapes hb with hg | ⟨rfl, rfl, rfl⟩ | ⟨hop, hbody⟩
  · cases hu : body.any Stmt.usesTransport with
    | false =>
      obtain ⟨p, hp, k⟩ := State.runStmts_proceeds hs hq hu hg
      exact .proceeds hb hp k
    | true =>
      rcases State.runStmts_proceeds_or_failed (stepTable_framesFirst hb) hg hs hq (ht hu) with ⟨p, hp, k⟩ | hfail
      · exact .proceeds hb hp k
      · exact .fails hfail
  · rw [State.runStmts_single]
    exact State.runStmt_coopPoll_stepped hq
  · obtain ⟨u, k, e⟩ := State.runStmts_finishes hs hq hbody
    rw [e]
    exact .finishes hop k

/-- A SEQ step from an entry that answers a next state is one of these. -/
theorem State.seqStep_next {s t : State} {op : Operation} {h pc : Nat} (hs : s.stopped = false)
    (hq : s.seq = .run op h pc) (hstep : s.seqStep = .next t) : SeqStepped s op h pc t := by
  cases hb : (stepTable op)[pc]? with
  | none => simp [State.seqStep, hq, hb] at hstep
  | some body =>
    rw [State.seqStep_run hq hb, State.runEntry] at hstep
    split at hstep
    case isTrue =>
      cases hstep
      exact .waits
    case isFalse hsilent =>
      split at hstep <;> cases hstep
      exact State.runStmts_stepped hs hq hb fun hu => by simpa [hu] using hsilent

end Sys2Proof.Machine
end

section
/-! The invariant: it holds after a launch, and each kind of step keeps it. It reads of a host agent's status only whether
the agent waits for a holding request or in WAIT_DONE, so a step that touches neither is dealt with by one lemma. -/

namespace Sys2Proof.Safety
open Sys2Proof.Machine

/-! Statuses the invariant reads. -/

/-- The invariant of a state that agrees with one that has it, where a host agent may have moved between `Free` and
WAIT_READY. -/
theorem Invariant.of_statuses {s t : State} (h : Invariant s) (hlen : t.hosts.length = s.hosts.length)
    (hpend : ∀ g i, t.st? g = some (.pending i) ↔ s.st? g = some (.pending i))
    (hwait : ∀ g, t.st? g = some .waitDone ↔ s.st? g = some .waitDone) (h1 : t.fb = s.fb := by rfl)
    (h2 : t.signal = s.signal := by rfl) (h3 : t.row = s.row := by rfl) (h4 : t.seq = s.seq := by rfl)
    (h5 : t.port = s.port := by rfl) (h6 : t.lbusy = s.lbusy := by rfl) (h7 : t.mode = s.mode := by rfl)
    (h8 : t.waiters = s.waiters := by rfl) : Invariant t where
  memory := h1 ▸ h.memory
  signal := h2 ▸ h.signal
  row := h3 ▸ h.row
  seq := by
    have hq := h.seq
    unfold SeqInv at hq ⊢
    rw [h4, h3, h5, h6, h7]
    simpa only [hpend] using hq
  pending g i hg := h5 ▸ h.pending g i ((hpend g i).mp hg)
  waiting g := by rw [h8, hwait]; exact h.waiting g
  rising := h8 ▸ h.rising
  sync hm := by
    rw [h6, h8, hlen]
    exact h.sync (h7 ▸ hm)
  hosts hn := h.hosts (List.length_eq_zero_iff.mp (by rw [← hlen, hn, List.length_nil]))

/-- The same where a state has lost or gained nothing but what the invariant does not read, host programs among it. -/
theorem Invariant.of_programs {s t : State} (h : Invariant s) (g : Nat) (f : HostAgent → HostAgent)
    (hf : ∀ r, (f r).st = r.st) (hhosts : t.hosts = s.hosts.modify g f := by rfl) (h1 : t.fb = s.fb := by rfl)
    (h2 : t.signal = s.signal := by rfl) (h3 : t.row = s.row := by rfl) (h4 : t.seq = s.seq := by rfl)
    (h5 : t.port = s.port := by rfl) (h6 : t.lbusy = s.lbusy := by rfl) (h7 : t.mode = s.mode := by rfl)
    (h8 : t.waiters = s.waiters := by rfl) : Invariant t :=
  h.congr h1 h2 h3 h4 h5 h6 h7 h8 (by rw [hhosts]; exact map_st_modify _ g f hf)

/-- A host agent in one of the two statuses that the invariant does not read. -/
def Unheld (st : HostStatus) : Prop := st = .free ∨ ∃ b, st = .waitReady b

/-- A change of status between those two. -/
theorem Invariant.setSt {s : State} (h : Invariant s) {g : Nat} {st st' : HostStatus} (hst : s.st? g = some st)
    (hu : Unheld st) (hu' : Unheld st') : Invariant (s.setSt g st') := by
  have other : ∀ {x : HostStatus}, (∀ b, x ≠ .waitReady b) → x ≠ .free →
      ∀ k, (s.setSt g st').st? k = some x ↔ s.st? k = some x := by
    intro x hx hx' k
    rw [State.st?_setSt_of_some hst]
    by_cases hk : k = g
    · subst hk
      have hne : ∀ {y : HostStatus}, Unheld y → y ≠ x := by
        rintro y (rfl | ⟨b, rfl⟩) e
        · exact hx' e.symm
        · exact hx b e.symm
      simp [hst, hne hu, hne hu']
    · rw [if_neg hk]
  refine h.of_statuses (by simp) (fun k i => ?_) (fun k => ?_)
  · exact other (by simp) (by simp) k
  · exact other (by simp) (by simp) k

/-- The host that holds the port waits for its response. -/
theorem Invariant.holder_pending {s : State} (h : Invariant s) {g : Nat} (hp : s.port = .held g) :
    ∃ i, s.st? g = some (.pending i) := by
  have hq := h.seq
  unfold SeqInv at hq
  split at hq
  · simp [hp] at hq
  case h_2 op k pc hseq =>
    obtain ⟨-, hop, -⟩ := hq
    split at hop
    · simp [hp] at hop
    · obtain ⟨-, hport, hst⟩ := hop
      rw [hp] at hport
      cases hport
      exact ⟨_, hst⟩
  · exact hq.elim

/-- While the port is free no host waits for the response to a holding request. -/
theorem Invariant.not_pending {s : State} (h : Invariant s) (hp : s.port = .free) (g : Nat) (i : Instr) :
    s.st? g ≠ some (.pending i) := fun hg => by
  have := h.pending g i hg
  simp [hp] at this

/-- A response to a host agent that is not held up frees no port. -/
theorem Invariant.respond {s : State} (h : Invariant s) {g : Nat} {st : HostStatus} (c : Response)
    (hst : s.st? g = some st) (hu : Unheld st) : Invariant (s.respond g c) := by
  have hport : s.port ≠ .held g := by
    intro hp
    obtain ⟨i, hi⟩ := h.holder_pending hp
    rw [hst] at hi
    rcases hu with rfl | ⟨b, rfl⟩ <;> cases hi
  rw [State.respond_eq, if_neg hport]
  exact (h.setSt hst hu (.inl rfl)).congr rfl rfl rfl rfl rfl rfl rfl rfl rfl

/-! Launches. -/

/-- After a launch SEQ is idle, nothing is held and no one waits. -/
theorem launch_invariant (cfg : Params) (env : Env) {fb : List Host.Cell} (progs : List (List HostAction))
    (hfb : Memory.wf fb) : Invariant (.launch cfg env fb progs) := by
  have hfree : ∀ g st, (State.launch cfg env fb progs).st? g = some st → st = .free := by
    intro g st hst
    obtain ⟨r, hr, rfl⟩ := Option.map_eq_some_iff.mp hst
    obtain ⟨p, rfl⟩ := eq_fresh_of_mem_launchHosts (List.mem_of_getElem? hr)
    rfl
  refine ⟨hfb, rfl, Nat.zero_le _, ⟨rfl, rfl⟩, fun g i hg => ?_, fun g => ?_, List.Pairwise.nil,
    fun hm => ⟨rfl, rfl, ?_⟩, ?_⟩
  · cases hfree g _ hg
  · refine ⟨nofun, fun hg => ?_⟩
    cases hfree g _ hg
  · have hmode : env.modeSel = .sync := hm
    cases progs <;> simp [State.launch, launchHosts, hmode]
  · cases progs with
    | nil => simp [State.launch, launchHosts]
    | cons p ps => cases hm : env.modeSel <;> simp [State.launch, launchHosts, hm]

/-- Settles O8: `State.reset` is a launch with an empty framebuffer list. -/
theorem resetHasInvariant : Obligations.ResetHasInvariant := by
  unfold Obligations.ResetHasInvariant
  exact launch_invariant _ _ _ State.reset_memory

/-! Requests. -/

/-- Acceptance by the port: its new holder is the one host agent that waits for it. -/
theorem Invariant.accept {s : State} (h : Invariant s) {op : Operation} {row : Nat} (panel : Panel)
    (hfree : s.st? s.issuer = some .free) (hop : op ≠ .refreshCoop) (hport : s.port = .free)
    (hflag : ¬(s.mode = .coop ∧ s.lbusy = true)) (hsync : op = .refreshSync → s.mode = .sync ∧ row = 0)
    (hrow : op ≠ .refreshSync → row = s.row) :
    Invariant (((s.accept op.request op).setRow row).setPanel panel) := by
  have hlbusy : s.lbusy = false := by
    cases hm : s.mode with
    | sync => exact (h.sync hm).1
    | coop => simpa [hm] using hflag
  have hst : ∀ g, (((s.accept op.request op).setRow row).setPanel panel).st? g =
      if g = s.issuer then some (.pending op.request) else s.st? g :=
    State.st?_setSt_of_some hfree _
  have hfits : RowFits op 0 row := by
    cases op with
    | refreshSync => simp [RowFits, (hsync rfl).2]
    | refreshCoop => exact absurd rfl hop
    | _ => trivial
  refine ⟨h.memory, h.signal, ?_, ⟨?_, ?_, fun e => (hsync e).1, hfits⟩, fun g i hg => ?_, fun g => ?_, h.rising,
    fun hm => ?_, ?_⟩
  · by_cases e : op = .refreshSync
    · simp [(hsync e).2]
    · simpa [hrow e] using h.row
  · cases op <;> decide
  · rw [if_neg hop]
    exact ⟨hlbusy, rfl, by rw [hst, if_pos rfl]⟩
  · rw [hst] at hg
    split at hg
    case isTrue e =>
      subst e
      rfl
    case isFalse => exact absurd hg (h.not_pending hport g i)
  · refine (h.waiting g).trans ?_
    rw [hst]
    by_cases hg : g = s.issuer
    · subst hg
      simp [hfree]
    · rw [if_neg hg]
  · simpa [State.accept] using h.sync hm
  · simpa [State.accept] using h.hosts

/-- Acceptance of a background refresh: the flag is set and the port stays free. -/
theorem Invariant.acceptCoop {s : State} (h : Invariant s) (hfree : s.st? s.issuer = some .free)
    (hport : s.port = .free) (hmode : s.mode = .coop) : Invariant s.acceptCoop := by
  rw [State.acceptCoop_eq hport hfree]
  refine ⟨h.memory, h.signal, Nat.zero_le _, ⟨by decide, ?_, nofun, ?_⟩, h.pending, h.waiting, h.rising, fun hm => ?_,
    h.hosts⟩
  · rw [if_pos rfl]
    exact ⟨hmode, rfl, hport⟩
  · simp [RowFits]
  · cases hmode.symm.trans hm

/-- The list of waiters stays rising when one more joins. -/
theorem insertId_pairwise {x : Nat} {l : List Nat} (hl : l.Pairwise (· < ·)) : (insertId x l).Pairwise (· < ·) := by
  induction l with
  | nil => simp [insertId]
  | cons a l ih =>
    obtain ⟨ha, hl'⟩ := List.pairwise_cons.mp hl
    unfold insertId
    split_ifs with hlt heq
    · refine List.pairwise_cons.mpr ⟨fun b hb => ?_, hl⟩
      rcases List.mem_cons.mp hb with rfl | hb
      · exact hlt
      · exact hlt.trans (ha b hb)
    · exact hl
    · refine List.pairwise_cons.mpr ⟨fun b hb => ?_, ih hl'⟩
      rcases (mem_insertId b x l).mp hb with rfl | hb
      · omega
      · exact ha b hb

/-- One more waiter. -/
theorem Invariant.waitsDone {s : State} (h : Invariant s) (hfree : s.st? s.issuer = some .free)
    (hmode : s.mode = .coop) :
    Invariant ((s.setWaiters (insertId s.issuer s.waiters)).setSt s.issuer .waitDone) := by
  have hst : ∀ g, ((s.setWaiters (insertId s.issuer s.waiters)).setSt s.issuer .waitDone).st? g =
      if g = s.issuer then some .waitDone else s.st? g :=
    State.st?_setSt_of_some hfree _
  have hpend : ∀ g i, ((s.setWaiters (insertId s.issuer s.waiters)).setSt s.issuer .waitDone).st? g =
      some (.pending i) ↔ s.st? g = some (.pending i) := by
    intro g i
    rw [hst]
    by_cases hg : g = s.issuer
    · subst hg
      simp [hfree]
    · rw [if_neg hg]
  refine ⟨h.memory, h.signal, h.row, ?_, fun g i hg => h.pending g i ((hpend g i).mp hg), fun g => ?_,
    insertId_pairwise h.rising, fun hm => ?_, by simpa using h.hosts⟩
  · have hq := h.seq
    unfold SeqInv at hq ⊢
    simpa only [State.setSt_seq, State.setWaiters_seq, State.setSt_row, State.setWaiters_row, State.setSt_port,
      State.setWaiters_port, State.setSt_lbusy, State.setWaiters_lbusy, State.setSt_mode, State.setWaiters_mode,
      hpend] using hq
  · refine (mem_insertId g s.issuer s.waiters).trans ?_
    rw [hst, h.waiting g]
    by_cases hg : g = s.issuer <;> simp [hg]
  · cases hmode.symm.trans hm

/-- The issue step of any request. -/
theorem Invariant.issued {s t : State} {i : Instr} (h : Invariant s) (hfree : s.st? s.issuer = some .free)
    (k : Issued s i t) : Invariant t := by
  cases k with
  | conflict hi => exact h.congr rfl rfl rfl rfl rfl rfl rfl rfl rfl
  | answered c hi => exact h.respond c hfree (.inl rfl)
  | accepted op row panel hop hport hflag hsync hrow hpanel => exact h.accept panel hfree hop hport hflag hsync hrow
  | background hport hmode hflag => exact h.acceptCoop hfree hport hmode
  | waitsReady => exact h.setSt hfree (.inl rfl) (.inr ⟨_, rfl⟩)
  | waitsDone hmode => exact h.waitsDone hfree hmode

/-! Host agents. -/

/-- A host agent's step. -/
theorem Invariant.hostStepped {s t : State} {g : Nat} (h : Invariant s) (k : HostStepped s g t) : Invariant t := by
  cases k with
  | @request r w rest t hr hprog hexec =>
    have hbegin : Invariant (s.beginIssue g rest) :=
      h.of_programs g (fun r => { r with prog := rest }) fun _ => rfl
    rcases issued_of_exec (decodeRequest_isRequest w) hexec with rfl | ⟨hfree, k⟩
    · exact hbegin
    · exact hbegin.issued hfree k
  | status rest =>
    have hprog : Invariant (s.setProg g rest) := h.of_programs g (fun r => { r with prog := rest }) fun _ => rfl
    exact hprog.of_programs g (fun r => { r with
      status := some ((s.setProg g rest).statusWord (s.setProg g rest).busyInput) }) fun _ => rfl
  | @write r a v rest hr hst hprog ha =>
    have hprog : Invariant (s.setProg g rest) := h.of_programs g (fun r => { r with prog := rest }) fun _ => rfl
    exact { hprog with memory := Memory.write_wf v h.memory ha }
  | read rest l =>
    have hprog : Invariant (s.setProg g rest) := h.of_programs g (fun r => { r with prog := rest }) fun _ => rfl
    exact hprog.of_programs g (fun r => { r with data := l }) fun _ => rfl
  | @yielded r hr hst =>
    have hst' : s.st? g = some (.waitReady true) := by rw [State.st?, hr, Option.map_some, hst]
    have hy : Invariant s.yield := h.congr rfl rfl rfl rfl rfl rfl rfl rfl rfl
    exact hy.setSt hst' (.inr ⟨_, rfl⟩) (.inr ⟨_, rfl⟩)
  | @polled r hr hst =>
    have hst' : s.st? g = some (.waitReady false) := by rw [State.st?, hr, Option.map_some, hst]
    have hb : Invariant s.sampleBusy := h.congr rfl rfl rfl rfl rfl rfl rfl rfl rfl
    unfold State.pollReady
    split
    · exact hb.respond .ok hst' (.inr ⟨_, rfl⟩)
    · exact hb.congr rfl rfl rfl rfl rfl rfl rfl rfl rfl

/-! SEQ. -/

/-- The parts of the invariant about an operation that runs. -/
theorem Invariant.run {s : State} (h : Invariant s) {op : Operation} {g pc : Nat} (hq : s.seq = .run op g pc) :
    pc < (stepTable op).length ∧
    (if op = .refreshCoop then s.mode = .coop ∧ s.lbusy = true ∧ s.port = .free
      else s.lbusy = false ∧ s.port = .held g ∧ s.st? g = some (.pending op.request)) ∧
    (op = .refreshSync → s.mode = .sync) ∧ RowFits op pc s.row := by
  have h' := h.seq
  unfold SeqInv at h'
  rwa [hq] at h'

/-- An operation that holds the port runs for a host agent that waits for it. -/
theorem Invariant.run_holding {s : State} (h : Invariant s) {op : Operation} {g pc : Nat} (hq : s.seq = .run op g pc)
    (hop : op ≠ .refreshCoop) : s.lbusy = false ∧ s.port = .held g ∧ s.st? g = some (.pending op.request) := by
  obtain ⟨-, hhold, -⟩ := h.run hq
  rwa [if_neg hop] at hhold

/-- The background refresh runs with the flag set and the port free. -/
theorem Invariant.run_background {s : State} (h : Invariant s) {g pc : Nat} (hq : s.seq = .run .refreshCoop g pc) :
    s.mode = .coop ∧ s.lbusy = true ∧ s.port = .free := by
  obtain ⟨-, hhold, -⟩ := h.run hq
  rwa [if_pos rfl] at hhold

/-- An operation that holds the port has ended: no one is left that waits for it. -/
theorem Invariant.released {s t : State} (h : Invariant s) {op : Operation} {g pc : Nat} (hq : s.seq = .run op g pc)
    (hop : op ≠ .refreshCoop) (hhosts : t.hosts = s.hosts.modify g (fun r => r.setSt .free)) (hseq : t.seq = .idle)
    (hport : t.port = .free) (hrow : t.row ≤ Config.height) (h1 : t.fb = s.fb := by rfl)
    (h2 : t.signal = s.signal := by rfl) (h6 : t.lbusy = s.lbusy := by rfl) (h7 : t.mode = s.mode := by rfl)
    (h8 : t.waiters = s.waiters := by rfl) : Invariant t := by
  obtain ⟨hlbusy, hheld, hpend⟩ := h.run_holding hq hop
  have hst : ∀ k, t.st? k = if k = g then some .free else s.st? k := by
    intro k
    rw [State.st?, hhosts]
    exact State.st?_setSt_of_some hpend .free k
  refine ⟨h1 ▸ h.memory, h2 ▸ h.signal, hrow, ?_, fun k i hk => ?_, fun k => ?_, h8 ▸ h.rising, fun hm => ?_, ?_⟩
  · unfold SeqInv
    rw [hseq]
    exact ⟨hport, h6.trans hlbusy⟩
  · rw [hst] at hk
    split at hk
    case isTrue => cases hk
    case isFalse hne =>
      have := h.pending k i hk
      rw [hheld] at this
      cases this
      exact absurd rfl hne
  · rw [h8, h.waiting k, hst]
    by_cases hk : k = g
    · subst hk
      simp [hpend]
    · rw [if_neg hk]
  · rw [h6, h8, hhosts, List.length_modify]
    exact h.sync (h7 ▸ hm)
  · simpa [hhosts] using h.hosts

/-- COMPLETE: every waiter is free, and no one waits. -/
theorem Invariant.complete {s : State} (h : Invariant s) (hp : s.port = .free) (hm : s.mode = .coop) :
    Invariant s.complete := by
  have hst : ∀ g, s.complete.st? g = if g ∈ s.waiters then some .free else s.st? g := by
    intro g
    rw [State.st?, State.complete_eq hp, hosts_answered]
    simp only [State.answerOrder, (orderBy_perm _ _).mem_iff]
    split
    case isTrue hg =>
      obtain ⟨r, hr, -⟩ := Option.map_eq_some_iff.mp ((h.waiting g).mp hg)
      simp [hr, HostAgent.setSt]
    case isFalse => rfl
  have hpend : ∀ g i, s.complete.st? g ≠ some (.pending i) := by
    intro g i hg
    rw [hst] at hg
    split at hg
    · cases hg
    · exact h.not_pending hp g i hg
  have hlen : s.complete.hosts ≠ [] := by
    intro hn
    obtain ⟨r, l, hr⟩ := List.exists_cons_of_ne_nil h.hosts
    have h0 : s.complete.st? 0 = none := by rw [State.st?, hn]; rfl
    rw [hst] at h0
    split at h0
    · cases h0
    · simp [State.st?, hr] at h0
  have hwait : ∀ g, g ∈ s.complete.waiters ↔ s.complete.st? g = some .waitDone := by
    intro g
    rw [hst]
    split
    case isTrue => simp [State.complete_eq hp]
    case isFalse hg => simpa [State.complete_eq hp, h.waiting g] using hg
  have hmode : s.complete.mode = .coop := s.complete_mode.trans hm
  refine ⟨?_, ?_, ?_, ?_, fun g i hg => absurd hg (hpend g i), hwait, ?_, fun hs => ?_, hlen⟩
  · rw [State.complete_eq hp]
    exact h.memory
  · rw [State.complete_eq hp]
  · rw [State.complete_eq hp]
    exact h.row
  · rw [State.complete_eq hp]
    exact ⟨hp, rfl⟩
  · rw [State.complete_eq hp]
    exact List.Pairwise.nil
  · cases hmode.symm.trans hs

/-- Where the statements of an entry leave SEQ is an entry again, which `S.row` fits. -/
theorem rowFits_of_mem_stmtsMoves {op : Operation} {pc row : Nat} {body : List Stmt} {p : Nat × Nat}
    (hb : (stepTable op)[pc]? = some body) (hp : p ∈ stmtsMoves body (pc, row)) (hfits : RowFits op pc row)
    (hrow : row ≤ Config.height) : p.1 < (stepTable op).length ∧ RowFits op p.1 p.2 ∧ p.2 ≤ Config.height := by
  obtain ⟨pc', row'⟩ := p
  cases op with
  | refreshSync =>
    rcases pc with _ | _ | _ | _ | _ | _ | pc <;> cases hb
    all_goals
      simp [stmtsMoves, Stmt.moves, sendSeq, activateSeq, RowFits, stepTable, refreshSyncEntries] at hp hfits ⊢
      grind
  | refreshCoop =>
    rcases pc with _ | _ | _ | _ | pc <;> cases hb
    all_goals
      simp [stmtsMoves, Stmt.moves, sendSeq, activateSeq, RowFits, stepTable, refreshCoopEntries] at hp hfits ⊢
      grind
  | init =>
    rcases pc with _ | _ | _ | _ | _ | _ | _ | _ | _ | _ | pc <;> cases hb
    all_goals
      simp [stmtsMoves, Stmt.moves, sendSeq, initTable, waveformSeq, RowFits, stepTable, initEntries] at hp ⊢
      grind
  | powerOn =>
    rcases pc with _ | _ | _ | pc <;> cases hb
    all_goals
      simp [stmtsMoves, Stmt.moves, sendSeq, activateSeq, RowFits, stepTable, powerOnEntries] at hp ⊢
      grind
  | sleep =>
    rcases pc with _ | _ | pc <;> cases hb
    all_goals
      simp [stmtsMoves, Stmt.moves, sendSeq, sleepSeq, RowFits, stepTable, sleepEntries] at hp ⊢
      grind

/-- The operation runs on. -/
theorem Invariant.proceeds {s t : State} (h : Invariant s) {op : Operation} {g pc : Nat} {p : Nat × Nat}
    (hq : s.seq = .run op g pc) (hpc : p.1 < (stepTable op).length) (hfits : RowFits op p.1 p.2)
    (hrow : p.2 ≤ Config.height) (k : Proceeds s t op g p) : Invariant t := by
  obtain ⟨-, hhold, hsync, -⟩ := h.run hq
  obtain ⟨e, l, r, x, rfl⟩ := k
  exact { h with row := hrow, seq := ⟨hpc, hhold, hsync, hfits⟩ }

/-- The state an entry is finished from still has the operation's holder and its status. -/
theorem Invariant.finishes {s u : State} (h : Invariant s) {op : Operation} {g pc : Nat} (hq : s.seq = .run op g pc)
    (hop : op ≠ .refreshCoop) (k : Proceeds s u op g (pc, s.row)) : Invariant u.finish := by
  obtain ⟨-, hheld, -⟩ := h.run_holding hq hop
  rw [State.finish_run k.seq]
  obtain ⟨e, l, r, x, rfl⟩ := k
  exact h.released hq hop rfl rfl (if_pos hheld) h.row

/-- A failed frame: a background refresh stands as it was, any other operation has ended. -/
theorem Invariant.fails {s t : State} (h : Invariant s) {op : Operation} {g pc : Nat} (hq : s.seq = .run op g pc)
    (k : SendFailed s t) : Invariant t := by
  by_cases hop : op = .refreshCoop
  · subst hop
    obtain ⟨e, pre, dc, l, -, rfl⟩ := k.background hq
    exact h.congr rfl rfl rfl rfl rfl rfl rfl rfl rfl
  · obtain ⟨-, hheld, -⟩ := h.run_holding hq hop
    obtain ⟨e, pre, dc, l, -, rfl⟩ := k.holding hq hop hheld
    exact h.released hq hop rfl rfl rfl h.row

/-- A SEQ step from an entry. -/
theorem Invariant.seqStepped {s t : State} (h : Invariant s) {op : Operation} {g pc : Nat} (hq : s.seq = .run op g pc)
    (k : SeqStepped s op g pc t) : Invariant t := by
  cases k with
  | waits => exact h
  | proceeds hb hp k =>
    obtain ⟨-, -, -, hfits⟩ := h.run hq
    obtain ⟨hpc, hfits', hrow⟩ := rowFits_of_mem_stmtsMoves hb hp hfits h.row
    exact h.proceeds hq hpc hfits' hrow k
  | finishes hop k => exact h.finishes hq hop k
  | completes hop hpc hb =>
    subst hop
    obtain ⟨hmode, -, hport⟩ := h.run_background hq
    have hsample : Invariant s.sampleBusy := h.congr rfl rfl rfl rfl rfl rfl rfl rfl rfl
    exact hsample.complete hport hmode
  | fails k => exact h.fails hq k

/-- SEQ's step: idle it has none, and the invariant rules out that it stands inside an entry. -/
theorem Invariant.seqStep {s t : State} (h : Invariant s) (hs : s.stopped = false) (hstep : s.seqStep = .next t) :
    Invariant t := by
  cases hq : s.seq with
  | idle =>
    rw [State.seqStep, hq] at hstep
    cases hstep
    exact h
  | run op g pc => exact h.seqStepped hq (State.seqStep_next hs hq hstep)
  | segment op g pc rest =>
    have hfalse := h.seq
    rw [SeqInv, hq] at hfalse
    exact hfalse.elim

/-! The step. -/

/-- Taking a turn. -/
theorem Invariant.takeTurn {s : State} (h : Invariant s) : Invariant s.takeTurn :=
  h.congr rfl rfl rfl rfl rfl rfl rfl rfl rfl

/-- Settles O9: the turn taken changes nothing the invariant reads; then each kind of step keeps it. -/
theorem stepKeepsInvariant : Obligations.StepKeepsInvariant := by
  unfold Obligations.StepKeepsInvariant
  intro s t h hstep
  have hturn := h.takeTurn
  rcases step_cases hstep with ⟨-, hs, hseq⟩ | ⟨g, -, -, hhost⟩ | ⟨l, -, rfl⟩ | ⟨m, -, rfl⟩ | ⟨b, -, rfl⟩
  · exact hturn.seqStep hs hseq
  · rcases State.hostStep_next hhost with rfl | k
    · exact hturn
    · exact hturn.hostStepped k
  · exact launch_invariant _ _ _ (Memory.ofCells_wf _)
  · exact hturn.congr rfl rfl rfl rfl rfl rfl rfl rfl rfl
  · exact hturn.congr rfl rfl rfl rfl rfl rfl rfl rfl rfl

/-- R113, as the invariant says it case by case. -/
theorem Invariant.seq_active_iff {s : State} (h : Invariant s) :
    (s.seq ≠ .idle ↔ (∃ g, s.port = .held g) ∨ s.lbusy = true) ∧ ¬((∃ g, s.port = .held g) ∧ s.lbusy = true) := by
  have hq := h.seq
  unfold SeqInv at hq
  split at hq
  case h_1 hseq =>
    obtain ⟨hport, hflag⟩ := hq
    simp [hseq, hport, hflag]
  case h_2 op g pc hseq =>
    by_cases hop : op = .refreshCoop
    · subst hop
      obtain ⟨-, hflag, hport⟩ := h.run_background hseq
      simp [hseq, hflag, hport]
    · obtain ⟨hflag, hport, -⟩ := h.run_holding hseq hop
      simp [hseq, hflag, hport]
  case h_3 => exact hq.elim

/-- Settles O17: the state after the step has the invariant. -/
theorem seqActiveIffHeldOrFlag : Obligations.SeqActiveIffHeldOrFlag := by
  unfold Obligations.SeqActiveIffHeldOrFlag
  exact fun s t h hstep => (stepKeepsInvariant s t h hstep).seq_active_iff

end Sys2Proof.Safety
end

section
/-! What steps leave unchanged: the parameters, the number of hosts, the framebuffer and the trace so far, whatever the
state; and the frames of host requests, panel commands, host steps and SEQ steps, read off what each can do. -/

namespace Sys2Proof.Machine
open Sys2Proof.Safety

/-! The trace and the fields that an agent does not write. -/

/-- From `s` to `t` the parameters, the framebuffer and the number of hosts stand, the trace has only grown, and, where
`drives` does not hold, RST has not been driven. -/
structure Extends (drives : Prop) (s t : State) : Prop where
  cfg : t.cfg = s.cfg
  fb : t.fb = s.fb
  hosts : t.hosts.length = s.hosts.length
  trace : ∃ evs, t.trace = s.trace ++ evs ∧ (¬ drives → ∀ v, Event.rst v ∉ evs)
  rst : ¬ drives → t.rst = s.rst

section
variable {p q : Prop} {s t u : State}

theorem Extends.refl (p : Prop) (s : State) : Extends p s s :=
  ⟨rfl, rfl, rfl, ⟨[], by simp, by simp⟩, fun _ => rfl⟩

theorem Extends.trans (h : Extends p s t) (k : Extends p t u) : Extends p s u := by
  obtain ⟨l, hl, hlr⟩ := h.trace
  obtain ⟨m, hm, hmr⟩ := k.trace
  refine ⟨k.cfg.trans h.cfg, k.fb.trans h.fb, k.hosts.trans h.hosts, ⟨l ++ m, by rw [hm, hl, List.append_assoc], ?_⟩,
    fun hp => (k.rst hp).trans (h.rst hp)⟩
  intro hp v hv
  exact (List.mem_append.mp hv).elim (hlr hp v) (hmr hp v)

theorem Extends.mono (h : Extends p s t) (hpq : p → q) : Extends q s t := by
  obtain ⟨l, hl, hlr⟩ := h.trace
  exact ⟨h.cfg, h.fb, h.hosts, ⟨l, hl, fun hq => hlr fun hp => hq (hpq hp)⟩, fun hq => h.rst fun hp => hq (hpq hp)⟩

/-- None of the named fields is written and no event is added. -/
theorem Extends.quiet (htrace : t.trace = s.trace := by rfl) (hcfg : t.cfg = s.cfg := by rfl)
    (hfb : t.fb = s.fb := by rfl) (hhosts : t.hosts.length = s.hosts.length := by rfl)
    (hrst : t.rst = s.rst := by rfl) : Extends p s t :=
  ⟨hcfg, hfb, hhosts, ⟨[], by simpa using htrace, by simp⟩, fun _ => hrst⟩

/-- An event that does not drive RST. -/
theorem Extends.emit (s : State) {e : Event} (he : ∀ v, e ≠ .rst v) : Extends p s (s.emit e) :=
  ⟨rfl, rfl, rfl, ⟨[e], rfl, fun _ v hv => he v (List.mem_singleton.mp hv).symm⟩, fun _ => rfl⟩

theorem Extends.trace_prefix (h : Extends p s t) : s.trace <+: t.trace := by
  obtain ⟨l, hl, -⟩ := h.trace
  exact ⟨l, hl.symm⟩

end

/-! Shared operations. -/

/-- A change of one host agent. -/
theorem State.modifyHost_extends (s : State) (h : Nat) (f : HostAgent → HostAgent) :
    Extends False s (s.setHosts (s.hosts.modify h f)) :=
  .quiet (hhosts := List.length_modify ..)

theorem State.setSt_extends (s : State) (h : Nat) (st : HostStatus) : Extends False s (s.setSt h st) :=
  s.modifyHost_extends h _

theorem State.respond_extends (s : State) (h : Nat) (c : Response) : Extends False s (s.respond h c) := by
  have hfreed : Extends False s ((s.setSt h .free).emit (.resp h c)) := (s.setSt_extends h .free).trans (.emit _ nofun)
  unfold State.respond
  dsimp only
  split
  · exact hfreed.trans .quiet
  · exact hfreed

theorem State.raiseFault_extends (s : State) (k : FaultKind) : Extends False s (s.raiseFault k) := by
  cases k with
  | transport => exact (Extends.quiet (s := s) (t := s.setFaultTp true)).trans (.emit _ nofun)
  | busConflict => exact (Extends.quiet (s := s) (t := s.setFaultBc true)).trans (.emit _ nofun)

/-- SEQ idle and a response. -/
theorem State.endWith_extends (s : State) (h : Nat) (c : Response) :
    Extends False s ((s.setSeq .idle).respond h c) :=
  Extends.trans .quiet (State.respond_extends ..)

theorem State.abort_extends (s : State) : Extends False s s.abort := by
  unfold State.abort
  split
  · exact .refl False s
  · exact s.raiseFault_extends .transport
  · exact s.raiseFault_extends .transport
  · exact s.endWith_extends ..
  · exact s.endWith_extends ..

theorem State.finish_extends (s : State) : Extends False s s.finish := by
  unfold State.finish
  split
  · exact .refl False s
  · exact s.endWith_extends ..
  · exact s.endWith_extends ..

theorem State.sampleBusy_extends (s : State) : Extends False s s.sampleBusy :=
  Extends.trans .quiet (.emit _ nofun)

theorem State.answerAll_extends (s : State) (hs : List Nat) : Extends False s (s.answerAll hs) := by
  unfold State.answerAll
  induction hs generalizing s with
  | nil => exact .refl False s
  | cons h hs ih => exact (s.respond_extends h .ok).trans (ih _)

theorem State.complete_extends (s : State) : Extends False s s.complete := by
  have hanswer := ((s.setEnv (s.env.takeOrder s.waiters.length)).setSignal true).answerAll_extends s.answerOrder
  have hdone : Extends False s s.fire := (Extends.trans .quiet hanswer).trans (Extends.trans .quiet (.emit _ nofun))
  exact hdone.trans .quiet

/-- Frames, whatever their result. -/
theorem State.sendFrame_extends (s : State) (dc : Select) (l : List Byte) : Extends False s (s.sendFrame dc l) := by
  have hframe : Extends False s ((s.setEnv s.env.takeOk).emit (.frame dc l s.tpResult)) :=
    Extends.trans .quiet (.emit _ nofun)
  unfold State.sendFrame
  dsimp only
  split
  · exact hframe
  · exact hframe.trans (Extends.trans .quiet (State.abort_extends _))

/-- Something that is done only while the operation runs on. -/
theorem Extends.andThen {p : Prop} {s t : State} {f : State → State} (h : Extends p s t) (hf : Extends p t (f t)) :
    Extends p s (t.andThen f) := by
  unfold State.andThen
  split
  · exact h.trans hf
  · exact h

theorem State.cmd_extends (s : State) (op : Byte) (l : List Byte) : Extends False s (s.cmd op l) := by
  cases l with
  | nil => exact s.sendFrame_extends ..
  | cons b bs =>
    exact Extends.andThen (f := fun t => t.sendFrame .data (b :: bs)) (s.sendFrame_extends ..)
      (State.sendFrame_extends ..)

/-! Instructions and agents. -/

theorem Issued.extends {s t : State} {i : Instr} (k : Issued s i t) : Extends False s t := by
  cases k with
  | conflict hi => exact s.raiseFault_extends .busConflict
  | answered c hi => exact s.respond_extends s.issuer c
  | accepted op row panel => exact (s.setSt_extends s.issuer (.pending op.request)).trans .quiet
  | background hport hmode hflag =>
    have hstart : Extends False s (((s.setLbusy true).setRow 0).setSeq (.run .refreshCoop s.issuer 0)).bookkeep := by
      rw [State.bookkeep_eq]
      exact .quiet
    exact hstart.trans (State.respond_extends ..)
  | waitsReady => exact s.setSt_extends ..
  | waitsDone hmode => exact Extends.trans .quiet (State.setSt_extends ..)

/-- The meaning of any instruction. -/
theorem exec_extends {i : Instr} {s t : State} (h : exec i s = .next t) : Extends False s t := by
  cases hi : i.isRequest with
  | true =>
    rcases issued_of_exec hi h with rfl | ⟨-, k⟩
    · exact .refl False t
    · exact k.extends
  | false =>
    obtain ⟨op, l, -, hexec⟩ := exec_seqCmd_of_not_request s hi
    rw [hexec] at h
    rcases State.seqCmd_next h with rfl | ⟨-, rfl⟩
    · exact .refl False t
    · exact s.cmd_extends op l

/-- A statement of a step table: RST is driven by `SetRst` alone. -/
theorem State.runStmt_extends (s : State) (c : Stmt) : Extends (∃ v, c = .setRst v) s (s.runStmt c) := by
  cases c with
  | setRst v => exact ⟨rfl, rfl, rfl, ⟨[.rst v], rfl, fun hn => absurd ⟨v, rfl⟩ hn⟩, fun hn => absurd ⟨v, rfl⟩ hn⟩
  | delay ms => exact .emit s nofun
  | yield => exact .emit s nofun
  | send i =>
    simp only [State.runStmt]
    cases h : exec i s with
    | next t => exact (exec_extends h).mono False.elim
    | fault _ => exact .refl _ s
    | refused _ => exact .refl _ s
  | row => exact (Extends.andThen (f := fun t => t.setRow (t.row + 1)) (s.sendFrame_extends ..) .quiet).mono False.elim
  | poll =>
    simp only [State.runStmt]
    split
    · exact (s.sampleBusy_extends.mono False.elim).trans (.emit _ nofun)
    · exact (s.sampleBusy_extends.mono False.elim).trans .quiet
  | coopPoll =>
    simp only [State.runStmt]
    split
    · exact (s.sampleBusy_extends.mono False.elim).trans (.emit _ nofun)
    · exact (s.sampleBusy_extends.trans (State.complete_extends _)).mono False.elim
  | advance => exact .quiet
  | next again exit => exact .quiet
  | configured => exact .quiet
  | asleep => exact .quiet
  | finish => exact s.finish_extends.mono False.elim

theorem State.runStmts_extends (s : State) (cs : List Stmt) : Extends (∃ v, Stmt.setRst v ∈ cs) s (s.runStmts cs) := by
  induction cs generalizing s with
  | nil => exact .refl _ s
  | cons c cs ih =>
    refine ((s.runStmt_extends c).mono ?_).andThen ((ih _).mono ?_)
    · rintro ⟨v, rfl⟩
      exact ⟨v, List.mem_cons_self⟩
    · rintro ⟨v, hv⟩
      exact ⟨v, List.mem_cons_of_mem _ hv⟩

/-- What SEQ is about to perform, at an entry or inside one, is all that can drive RST. -/
theorem State.seqStep_extends {s t : State} (h : s.seqStep = .next t) :
    Extends (∃ v, Stmt.setRst v ∈ seqBody s) s t := by
  have entry : ∀ {u : State} {body : List Stmt}, Extends (∃ v, Stmt.setRst v ∈ body) s u → s.runEntry u body = .next t →
      Extends (∃ v, Stmt.setRst v ∈ body) s t := by
    intro u body hu he
    unfold State.runEntry at he
    split at he
    · cases he
      exact .refl _ s
    · split at he <;> cases he
      exact hu.trans (u.runStmts_extends body)
  unfold State.seqStep at h
  split at h
  case h_1 =>
    cases h
    exact .refl _ s
  case h_2 op g pc hq =>
    split at h
    case h_1 body hb =>
      simp only [seqBody, hq, hb, Option.getD_some]
      exact entry (.refl _ s) h
    case h_2 => cases h
  case h_3 op g pc rest hq =>
    simp only [seqBody, hq]
    exact entry .quiet h

/-- A host agent's step that is not a framebuffer write. -/
theorem HostStepped.extends {s t : State} {h : Nat} (k : HostStepped s h t) :
    Extends False s t ∨ ∃ r a v rest, s.hosts[h]? = some r ∧ r.st = .free ∧ r.prog = .write a v :: rest ∧
      a < Config.fbSize ∧ Extends False s (t.setFb s.fb) ∧ t.fb = Memory.write s.fb a v := by
  have hprog : ∀ rest, Extends False s (s.setProg h rest) := fun rest => s.modifyHost_extends h _
  cases k with
  | request hr hp hexec => exact .inl (((hprog _).trans .quiet).trans (exec_extends hexec))
  | status rest =>
    exact .inl (((hprog rest).trans (State.sampleBusy_extends _)).trans (State.modifyHost_extends ..))
  | @write r a v rest hr hst hp ha =>
    exact .inr ⟨r, a, v, rest, hr, hst, hp, ha, (hprog rest).trans .quiet, rfl⟩
  | read rest l => exact .inl ((hprog rest).trans (State.modifyHost_extends ..))
  | yielded hr hst => exact .inl ((Extends.emit s (e := .yield) nofun).trans (s.yield.setSt_extends ..))
  | polled hr hst =>
    unfold State.pollReady
    split
    · exact .inl (s.sampleBusy_extends.trans (State.respond_extends ..))
    · exact .inl (s.sampleBusy_extends.trans (.emit _ nofun))

/-! The step. -/

/-- A step that is no block reset extends the state, with RST driven by what SEQ performs alone, or writes one byte of the
framebuffer for a host agent. -/
theorem step_extends {s t : State} (h : step s = .next t) (hr : NoReset s) :
    Extends (s.nextTurn = .agent .seq ∧ ∃ v, Stmt.setRst v ∈ seqBody s) s t ∨
    ∃ g r a v rest, s.nextTurn = .agent (.host g) ∧ s.hosts[g]? = some r ∧ r.st = .free ∧
      r.prog = .write a v :: rest ∧ a < Config.fbSize ∧ Extends False s (t.setFb s.fb) ∧
      t.fb = Memory.write s.fb a v := by
  have hturn : ∀ p, Extends p s s.takeTurn := fun p => .quiet
  rcases step_cases h with ⟨ht, -, hseq⟩ | ⟨g, ht, -, hhost⟩ | ⟨l, hl, -⟩ | ⟨m, -, rfl⟩ | ⟨b, -, rfl⟩
  · exact .inl (((hturn _).trans (State.seqStep_extends hseq)).mono fun hv => ⟨ht, hv⟩)
  · rcases State.hostStep_next hhost with rfl | k
    · exact .inl (hturn _)
    · rcases k.extends with k | ⟨r, a, v, rest, hr, hst, hp, ha, k, hfb⟩
      · exact .inl (((hturn _).trans k).mono False.elim)
      · exact .inr ⟨g, r, a, v, rest, ht, hr, hst, hp, ha, (hturn _).trans k, hfb⟩
  · exact absurd hl (hr l)
  · exact .inl .quiet
  · exact .inl .quiet

/-- Settles O11: a block reset keeps the parameters, and every other step the number of hosts too. -/
theorem parametersAndHostCountFixed : Obligations.ParametersAndHostCountFixed := by
  unfold Obligations.ParametersAndHostCountFixed
  intro s t h
  by_cases hr : NoReset s
  · rcases step_extends h hr with k | ⟨g, r, a, v, rest, -, -, -, -, -, k, -⟩
    · exact ⟨k.cfg, fun _ => k.hosts⟩
    · exact ⟨k.cfg, fun _ => k.hosts⟩
  · obtain ⟨l, hl⟩ := not_forall_not.mp hr
    rw [step_blockReset hl] at h
    cases h
    exact ⟨rfl, fun hr' => absurd hl (hr' l)⟩

/-- Settles O13: a step extends the state or is a host agent's write. -/
theorem framebufferWrittenByHostsOnly : Obligations.FramebufferWrittenByHostsOnly := by
  unfold Obligations.FramebufferWrittenByHostsOnly
  intro s t h hr
  rcases step_extends h hr with k | ⟨g, r, a, v, rest, ht, hg, hst, hp, ha, -, hfb⟩
  · exact .inl k.fb
  · exact .inr ⟨g, r, a, v, rest, ht, hg, hst, hp, ha, hfb⟩

/-- Settles O14: events are only added, in a framebuffer write too. -/
theorem traceOnlyGrows : Obligations.TraceOnlyGrows := by
  unfold Obligations.TraceOnlyGrows
  intro s t h hr
  rcases step_extends h hr with k | ⟨g, r, a, v, rest, -, -, -, -, -, k, -⟩
  · exact k.trace_prefix
  · exact k.trace_prefix

/-- `SetRst` stands in entries 0 to 2 of INIT and nowhere else. -/
theorem init_of_setRst_mem {op : Operation} {pc : Nat} {body : List Stmt} {v : Bool}
    (hb : (stepTable op)[pc]? = some body) (hv : .setRst v ∈ body) : op = .init ∧ pc < 3 := by
  have entries : ∀ e ∈ (stepTable op).zipIdx, (.setRst true ∈ e.1 ∨ .setRst false ∈ e.1) → op = .init ∧ e.2 < 3 := by
    cases op <;> decide
  refine entries (body, pc) (List.mem_zipIdx_iff_getElem?.mpr hb) ?_
  cases v
  · exact .inr hv
  · exact .inl hv

/-- Under the invariant SEQ performs `SetRst` in those entries only. -/
theorem seq_init_of_setRst_mem {s : State} {v : Bool} (h : Invariant s) (hv : .setRst v ∈ seqBody s) :
    ∃ g pc, s.seq = .run .init g pc ∧ pc < 3 := by
  cases hq : s.seq with
  | idle =>
    rw [seqBody, hq] at hv
    exact absurd hv List.not_mem_nil
  | run op g pc =>
    rw [seqBody, hq] at hv
    cases hb : (stepTable op)[pc]? with
    | none => simp [hb] at hv
    | some body =>
      simp only [hb, Option.getD_some] at hv
      obtain ⟨rfl, hpc⟩ := init_of_setRst_mem hb hv
      exact ⟨g, pc, rfl, hpc⟩
  | segment op g pc rest =>
    have hfalse := h.seq
    rw [SeqInv, hq] at hfalse
    exact hfalse.elim

/-- Where RST is not driven, neither its level nor the trace says it was. -/
theorem Extends.rst_quiet {p : Prop} {s t : State} (k : Extends p s t) (hp : ¬ p) :
    ¬ (t.rst ≠ s.rst ∨ ∃ v, Event.rst v ∈ t.trace.drop s.trace.length) := by
  obtain ⟨evs, he, hevs⟩ := k.trace
  rintro (hrst | ⟨v, hv⟩)
  · exact hrst (k.rst hp)
  · rw [he, List.drop_left] at hv
    exact hevs hp v hv

/-- Settles O15: RST is driven by a `SetRst` that SEQ performs, and that is in INIT's entries 0 to 2. -/
theorem rstDrivenByInitOnly : Obligations.RstDrivenByInitOnly := by
  unfold Obligations.RstDrivenByInitOnly
  intro s t hinv h hr hdriven
  rcases step_extends h hr with k | ⟨g, r, a, v, rest, -, -, -, -, -, k, -⟩
  · obtain ⟨ht, v, hv⟩ := not_not.mp fun hn => k.rst_quiet hn hdriven
    exact ⟨ht, seq_init_of_setRst_mem hinv hv⟩
  · exact absurd hdriven (k.rst_quiet not_false)

end Sys2Proof.Machine
end

section
/-! The frames of requests, panel commands, host steps and SEQ steps, the logical busy flag, and the stopped block: each
read off what such a step can do. -/

namespace Sys2Proof.Machine
open Sys2Proof.Safety

/-! Requests and host agents. -/

/-- What the issue step of `i` leaves, and which requests alone write the rest (30_encoding.md R111). -/
structure IssueFrame (i : Instr) (s t : State) : Prop where
  fb : t.fb = s.fb
  rst : t.rst = s.rst
  signal : t.signal = s.signal
  mode : t.mode = s.mode
  cfg : t.cfg = s.cfg
  faultTp : t.faultTp = s.faultTp
  env : t.env = s.env
  issuer : t.issuer = s.issuer
  others : ∀ g, g ≠ s.issuer → t.hosts[g]? = s.hosts[g]?
  programs : t.programs = s.programs
  frames : frames t.trace = frames s.trace
  row : i ≠ .refresh → t.row = s.row ∧ t.lbusy = s.lbusy
  panel : i ≠ .refresh → i ≠ .powerOn → t.panel = s.panel
  waiters : i ≠ .waitDone → t.waiters = s.waiters
  seq : i ∉ [Instr.init, .refresh, .powerOn, .sleep] → t.seq = s.seq
  faultBc : i ∉ [Instr.init, .powerOn, .sleep] → t.faultBc = s.faultBc

theorem IssueFrame.refl (i : Instr) (s : State) : IssueFrame i s s := by
  constructor <;> simp

/-- A change of one host's status leaves the others. -/
theorem State.setSt_others (s : State) (h : Nat) (st : HostStatus) {g : Nat} (hg : g ≠ h) :
    (s.setSt h st).hosts[g]? = s.hosts[g]? :=
  List.getElem?_modify_ne _ _ hg.symm

/-- An event that is no frame adds none to the trace. -/
theorem frames_emit {l : List Event} {e : Event} (he : eventFrame e = none) : frames (l ++ [e]) = frames l := by
  simp [frames, he]

/-- An answer, by its state equation. -/
theorem State.answer_frame {s : State} {i : Instr} (c : Response) : IssueFrame i s (s.answer c) := by
  rw [State.answer, State.respond_eq]
  exact ⟨rfl, rfl, rfl, rfl, rfl, rfl, rfl, rfl, fun g => s.setSt_others _ _, s.setSt_programs _ _, frames_emit rfl,
    fun _ => ⟨rfl, rfl⟩, fun _ _ => rfl, fun _ => rfl, fun _ => rfl, fun _ => rfl⟩

theorem Issued.frame {s t : State} {i : Instr} (hfree : s.st? s.issuer = some .free) (k : Issued s i t) :
    IssueFrame i s t := by
  cases k with
  | conflict hi =>
    exact ⟨rfl, rfl, rfl, rfl, rfl, rfl, rfl, rfl, fun g _ => rfl, rfl, frames_emit rfl,
      fun _ => ⟨rfl, rfl⟩, fun _ _ => rfl, fun _ => rfl, fun _ => rfl, fun hn => absurd hi hn⟩
  | answered c hi => exact State.answer_frame c
  | accepted op row panel hop hport hflag hsync hrow hpanel =>
    refine ⟨rfl, rfl, rfl, rfl, rfl, rfl, rfl, rfl, fun g => s.setSt_others _ _, s.setSt_programs _ _, rfl, fun hi => ?_,
      fun hi hi' => ?_, fun _ => rfl, fun hi => ?_, fun _ => rfl⟩
    · exact ⟨hrow fun e => hi (e ▸ rfl), rfl⟩
    · exact hpanel (fun e => hi (e ▸ rfl)) (fun e => hi' (e ▸ rfl))
    · cases op <;> simp [Operation.request] at hi
  | background hport hmode hflag =>
    rw [State.acceptCoop_eq hport hfree]
    exact ⟨rfl, rfl, rfl, rfl, rfl, rfl, rfl, rfl, fun g _ => rfl, rfl, frames_emit rfl, fun hi => absurd rfl hi,
      fun hi => absurd rfl hi, fun _ => rfl, by simp, fun _ => rfl⟩
  | waitsReady =>
    exact ⟨rfl, rfl, rfl, rfl, rfl, rfl, rfl, rfl, fun g => s.setSt_others _ _, s.setSt_programs _ _, rfl,
      fun _ => ⟨rfl, rfl⟩, fun _ _ => rfl, fun _ => rfl, fun _ => rfl, fun _ => rfl⟩
  | waitsDone hmode =>
    exact ⟨rfl, rfl, rfl, rfl, rfl, rfl, rfl, rfl, fun g => s.setSt_others _ _, s.setSt_programs _ _, rfl,
      fun _ => ⟨rfl, rfl⟩, fun _ _ => rfl, fun hi => absurd rfl hi, fun _ => rfl, fun _ => rfl⟩

/-- The frame of any request. -/
theorem exec_request_frame {i : Instr} {s t : State} (hi : i.isRequest = true) (h : exec i s = .next t) :
    IssueFrame i s t := by
  rcases issued_of_exec hi h with rfl | ⟨hfree, k⟩
  · exact .refl i t
  · exact k.frame hfree

/-- Settles O29: each issue step's state equation, field by field. -/
theorem requestFrame : Obligations.RequestFrame := by
  unfold Obligations.RequestFrame
  intro i s t hi h
  have k := exec_request_frame hi h
  exact ⟨fun a => by rw [k.fb], k.rst, k.signal, k.mode, k.cfg, k.faultTp, k.env, k.issuer, k.others, k.programs, k.frames,
    k.row, k.panel, k.waiters, k.seq, k.faultBc⟩

/-- What a host agent's step leaves (10_state.md R45). -/
structure HostFrame (h : Nat) (s t : State) : Prop where
  others : ∀ g, g ≠ h → t.hosts[g]? = s.hosts[g]?
  rst : t.rst = s.rst
  signal : t.signal = s.signal
  cfg : t.cfg = s.cfg
  mode : t.mode = s.mode
  faultTp : t.faultTp = s.faultTp
  frames : frames t.trace = frames s.trace

section
variable {h : Nat} {s t u : State}

theorem HostFrame.trans (k : HostFrame h s t) (k' : HostFrame h t u) : HostFrame h s u where
  others g hg := (k'.others g hg).trans (k.others g hg)
  rst := k'.rst.trans k.rst
  signal := k'.signal.trans k.signal
  cfg := k'.cfg.trans k.cfg
  mode := k'.mode.trans k.mode
  faultTp := k'.faultTp.trans k.faultTp
  frames := k'.frames.trans k.frames

/-- A change of the agent itself. -/
theorem State.modifyHost_hostFrame (s : State) (h : Nat) (f : HostAgent → HostAgent) :
    HostFrame h s (s.setHosts (s.hosts.modify h f)) :=
  ⟨fun _ hg => List.getElem?_modify_ne _ _ hg.symm, rfl, rfl, rfl, rfl, rfl, rfl⟩

/-- An event that is no frame, and a draw. -/
theorem State.emit_hostFrame (s : State) (h : Nat) (env : Env) {e : Event} (he : eventFrame e = none) :
    HostFrame h s ((s.setEnv env).emit e) :=
  ⟨fun _ _ => rfl, rfl, rfl, rfl, rfl, rfl, frames_emit he⟩

theorem State.respond_hostFrame (s : State) (h : Nat) (c : Response) : HostFrame h s (s.respond h c) := by
  rw [State.respond_eq]
  exact ⟨fun g hg => s.setSt_others h _ hg, rfl, rfl, rfl, rfl, rfl, frames_emit rfl⟩

theorem IssueFrame.hostFrame {i : Instr} (k : IssueFrame i s t) : HostFrame s.issuer s t :=
  ⟨k.others, k.rst, k.signal, k.cfg, k.mode, k.faultTp, k.frames⟩

theorem HostStepped.hostFrame (k : HostStepped s h t) : HostFrame h s t := by
  have hprog : ∀ rest, HostFrame h s (s.setProg h rest) := fun rest => s.modifyHost_hostFrame h _
  cases k with
  | @request r w rest t hr hp hexec =>
    have hbegin : HostFrame h s (s.beginIssue h rest) :=
      ⟨(hprog rest).others, rfl, rfl, rfl, rfl, rfl, rfl⟩
    exact hbegin.trans (exec_request_frame (decodeRequest_isRequest w) hexec).hostFrame
  | status rest =>
    exact ((hprog rest).trans (State.emit_hostFrame _ h _ rfl)).trans (State.modifyHost_hostFrame ..)
  | write hr hst hp ha => exact ⟨(hprog _).others, rfl, rfl, rfl, rfl, rfl, rfl⟩
  | read rest l => exact (hprog rest).trans (State.modifyHost_hostFrame ..)
  | yielded hr hst => exact (s.emit_hostFrame h s.env rfl).trans (State.modifyHost_hostFrame _ h _)
  | polled hr hst =>
    have hsample : HostFrame h s s.sampleBusy := s.emit_hostFrame h s.env.takeBusy rfl
    unfold State.pollReady
    split
    · exact hsample.trans (State.respond_hostFrame ..)
    · exact hsample.trans (State.emit_hostFrame _ h s.env.takeBusy rfl)

end

/-- Settles O18: the turn taken, then one of the host steps. -/
theorem hostStepLeavesOthers : Obligations.HostStepLeavesOthers := by
  unfold Obligations.HostStepLeavesOthers
  intro s t h ht hstep
  cases hs : s.stopped with
  | true =>
    rw [step_stopped ht hs] at hstep
    cases hstep
  | false =>
    rw [step_host ht hs] at hstep
    rcases State.hostStep_next hstep with rfl | k
    · exact ⟨fun _ _ => rfl, rfl, rfl, rfl, rfl, rfl, rfl⟩
    · have k := k.hostFrame
      exact ⟨k.others, k.rst, k.signal, k.cfg, k.mode, k.faultTp, k.frames⟩

/-! Panel commands and SEQ. -/

/-- The host the running operation is for. -/
def Seq.requester : Seq → Option Nat
  | .idle => none
  | .run _ h _ => some h
  | .segment _ h _ _ => some h

/-- What the error entries can write: SEQ, the requester's status, the port, the fault bit and the trace. -/
theorem State.abort_writes (s : State) : ∃ seq hosts port faultTp trace,
    (∀ g, Seq.requester s.seq ≠ some g → hosts[g]? = s.hosts[g]?) ∧
    hosts.map (fun r => (r.prog, r.status, r.data)) = s.programs ∧
    s.abort = { s with seq := seq, hosts := hosts, port := port, faultTp := faultTp, trace := trace } := by
  have ended : ∀ h, Seq.requester s.seq = some h → ∃ seq hosts port faultTp trace,
      (∀ g, Seq.requester s.seq ≠ some g → hosts[g]? = s.hosts[g]?) ∧
      hosts.map (fun r => (r.prog, r.status, r.data)) = s.programs ∧
      (s.setSeq .idle).respond h .transportError =
        { s with seq := seq, hosts := hosts, port := port, faultTp := faultTp, trace := trace } := fun h hr =>
    ⟨_, _, _, s.faultTp, _, fun g hg => s.setSt_others h .free fun e => hg (e ▸ hr), s.setSt_programs h .free,
      State.respond_eq ..⟩
  unfold State.abort
  split
  case h_1 => exact ⟨s.seq, s.hosts, s.port, s.faultTp, s.trace, fun _ _ => rfl, rfl, rfl⟩
  case h_2 => exact ⟨s.seq, s.hosts, s.port, true, _, fun _ _ => rfl, rfl, rfl⟩
  case h_3 => exact ⟨s.seq, s.hosts, s.port, true, _, fun _ _ => rfl, rfl, rfl⟩
  case h_4 hq => exact ended _ (by rw [hq]; rfl)
  case h_5 hq => exact ended _ (by rw [hq]; rfl)

/-- What a failed frame and the frames before it can write. -/
theorem SendFailed.writes {s t : State} (k : SendFailed s t) : ∃ env seq hosts port faultTp trace,
    (∀ g, Seq.requester s.seq ≠ some g → hosts[g]? = s.hosts[g]?) ∧
    hosts.map (fun r => (r.prog, r.status, r.data)) = s.programs ∧
    t = { s with
      env := env, seq := seq, hosts := hosts, port := port, faultTp := faultTp, trace := trace
      panel := .undefined } := by
  obtain ⟨e, pre, dc, l, -, rfl⟩ := k
  obtain ⟨q, hs, p, f, tr, hothers, hprogs, habort⟩ := State.abort_writes { s with
    env := e, trace := s.trace ++ pre ++ [.frame dc l false], panel := .undefined }
  exact ⟨e, q, hs, p, f, tr, hothers, hprogs, habort⟩

/-- Settles O36: the frames alone, or what a failed one writes. -/
theorem panelCommandFrame : Obligations.PanelCommandFrame := by
  unfold Obligations.PanelCommandFrame
  intro i s t hi h
  rcases exec_panel_next hi h with rfl | ⟨pre, -, e, -, rfl⟩ | k
  · exact ⟨fun _ => rfl, rfl, rfl, rfl, rfl, rfl, rfl, rfl, rfl, rfl, fun _ _ _ => rfl, .inl rfl⟩
  · exact ⟨fun _ => rfl, rfl, rfl, rfl, rfl, rfl, rfl, rfl, rfl, rfl, fun _ _ _ => rfl, .inl rfl⟩
  · obtain ⟨e, q, hs, p, f, tr, hothers, -, rfl⟩ := k.writes
    refine ⟨fun _ => rfl, rfl, rfl, rfl, rfl, rfl, rfl, rfl, rfl, rfl, fun g hrun hseg => hothers g ?_, .inr rfl⟩
    intro hreq
    cases hq : s.seq with
    | idle => simp [hq, Seq.requester] at hreq
    | run op k pc =>
      rw [hq] at hreq
      cases hreq
      exact hrun op pc hq
    | segment op k pc rest =>
      rw [hq] at hreq
      cases hreq
      exact hseg op pc rest hq

/-- Answering the waiters leaves the programs. -/
@[simp] theorem State.answerAll_programs (s : State) (hs : List Nat) : (s.answerAll hs).programs = s.programs := by
  unfold State.answerAll
  induction hs generalizing s with
  | nil => rfl
  | cons h hs ih => exact (ih _).trans (s.respond_programs h .ok)

theorem State.complete_programs (s : State) : s.complete.programs = s.programs :=
  ((s.setEnv _).setSignal true).answerAll_programs s.answerOrder

/-- What a SEQ step leaves. -/
structure SeqFrame (s t : State) : Prop where
  fb : t.fb = s.fb
  mode : t.mode = s.mode
  cfg : t.cfg = s.cfg
  issuer : t.issuer = s.issuer
  faultBc : t.faultBc = s.faultBc
  programs : t.programs = s.programs

theorem SeqStepped.frame {s t : State} {op : Operation} {g pc : Nat} (h : Invariant s) (hq : s.seq = .run op g pc)
    (k : SeqStepped s op g pc t) : SeqFrame s t := by
  cases k with
  | waits => exact ⟨rfl, rfl, rfl, rfl, rfl, rfl⟩
  | proceeds hb hp k =>
    obtain ⟨e, l, r, x, rfl⟩ := k
    exact ⟨rfl, rfl, rfl, rfl, rfl, rfl⟩
  | finishes hop k =>
    rw [State.finish_run k.seq]
    obtain ⟨e, l, r, x, rfl⟩ := k
    exact ⟨rfl, rfl, rfl, rfl, rfl, s.setSt_programs g .free⟩
  | completes hop hpc hb =>
    subst hop
    obtain ⟨-, -, hport⟩ := h.run_background hq
    have hprogs := s.sampleBusy.complete_programs
    rw [State.complete_eq (s := s.sampleBusy) hport] at hprogs ⊢
    exact ⟨rfl, rfl, rfl, rfl, rfl, hprogs⟩
  | fails k =>
    obtain ⟨e, q, hs, p, f, tr, -, hprogs, rfl⟩ := k.writes
    exact ⟨rfl, rfl, rfl, rfl, rfl, hprogs⟩

/-- A SEQ turn under the invariant: nothing but the turn, or a step from an entry. -/
theorem step_seq_next {s t : State} (h : Invariant s) (ht : s.nextTurn = .agent .seq) (hstep : step s = .next t) :
    t = s.takeTurn ∨ ∃ op g pc, s.seq = .run op g pc ∧ SeqStepped s.takeTurn op g pc t := by
  cases hs : s.stopped with
  | true =>
    rw [step_stopped ht hs] at hstep
    cases hstep
  | false =>
    rw [step_seq ht hs] at hstep
    cases hq : s.seq with
    | idle =>
      simp only [State.seqStep, State.takeTurn_seq, hq] at hstep
      cases hstep
      exact .inl rfl
    | run op g pc => exact .inr ⟨op, g, pc, rfl, State.seqStep_next hs hq hstep⟩
    | segment op g pc rest =>
      have hfalse := h.seq
      rw [SeqInv, hq] at hfalse
      exact hfalse.elim

/-- Settles O19: the frame of each way SEQ's step can go. -/
theorem seqStepFrame : Obligations.SeqStepFrame := by
  unfold Obligations.SeqStepFrame
  intro s t h ht hstep
  rcases step_seq_next h ht hstep with rfl | ⟨op, g, pc, hq, k⟩
  · exact ⟨rfl, fun _ => rfl, rfl, rfl, rfl, rfl, rfl⟩
  · have k := k.frame h.takeTurn hq
    exact ⟨k.fb, fun a => by rw [k.fb]; rfl, k.mode, k.cfg, k.issuer, k.faultBc, k.programs⟩

/-! The logical busy flag. -/

/-- The one request that sets the flag, and none clears it. -/
theorem Issued.lbusy {s t : State} {i : Instr} (hfree : s.st? s.issuer = some .free) (k : Issued s i t) :
    t.lbusy = s.lbusy ∨
      (i = .refresh ∧ s.mode = .coop ∧ t.lbusy = true ∧ t.seq = .run .refreshCoop s.issuer 0) := by
  cases k with
  | conflict hi => exact .inl rfl
  | answered c hi => exact .inl (by rw [State.answer, State.respond_eq])
  | accepted op row panel => exact .inl rfl
  | background hport hmode hflag =>
    rw [State.acceptCoop_eq hport hfree]
    exact .inr ⟨rfl, hmode, rfl, rfl⟩
  | waitsReady => exact .inl rfl
  | waitsDone hmode => exact .inl rfl

/-- REFRESH is one word. -/
theorem eq_of_decodeRequest_eq_refresh : ∀ {w : ReqWord}, decodeRequest w = .refresh → w = 0x2 := by
  decide

/-- The one host step that sets the flag. -/
theorem HostStepped.lbusy {s t : State} {h : Nat} (k : HostStepped s h t) :
    t.lbusy = s.lbusy ∨ (s.mode = .coop ∧ t.lbusy = true ∧ t.seq = .run .refreshCoop h 0 ∧
      ∃ r rest, s.hosts[h]? = some r ∧ r.prog = .request 0x2 :: rest) := by
  cases k with
  | @request r w rest t hr hp hexec =>
    rcases issued_of_exec (decodeRequest_isRequest w) hexec with rfl | ⟨hfree, k⟩
    · exact .inl rfl
    · refine (k.lbusy hfree).imp id fun ⟨hi, hmode, hflag, hseq⟩ => ⟨hmode, hflag, hseq, r, rest, hr, ?_⟩
      rw [hp, eq_of_decodeRequest_eq_refresh hi]
  | polled hr hst =>
    unfold State.pollReady
    split
    · exact .inl (by rw [State.respond_eq]; rfl)
    · exact .inl rfl
  | _ => exact .inl rfl

/-- The one SEQ step that clears the flag, and none sets it. -/
theorem SeqStepped.lbusy {s t : State} {op : Operation} {g pc : Nat} (k : SeqStepped s op g pc t) :
    t.lbusy = s.lbusy ∨ (t.lbusy = false ∧ op = .refreshCoop ∧ pc = 3 ∧ s.busyInput = false) := by
  cases k with
  | waits => exact .inl rfl
  | proceeds hb hp k =>
    obtain ⟨e, l, r, x, rfl⟩ := k
    exact .inl rfl
  | finishes hop k =>
    rw [State.finish_run k.seq]
    obtain ⟨e, l, r, x, rfl⟩ := k
    exact .inl rfl
  | completes hop hpc hb => exact .inr ⟨rfl, hop, hpc, hb⟩
  | fails k =>
    obtain ⟨e, q, hs, p, f, tr, -, -, rfl⟩ := k.writes
    exact .inl rfl

/-- A step that is no block reset: the flag stands, or is set by REFRESH, or is cleared by COMPLETE. -/
theorem step_lbusy {s t : State} (h : Invariant s) (hstep : step s = .next t) (hr : NoReset s) :
    t.lbusy = s.lbusy ∨
    (t.lbusy = true ∧ s.mode = .coop ∧ ∃ g r rest, s.nextTurn = .agent (.host g) ∧ s.hosts[g]? = some r ∧
      r.prog = .request 0x2 :: rest ∧ t.seq = .run .refreshCoop g 0) ∨
    (t.lbusy = false ∧ s.nextTurn = .agent .seq ∧ s.takeTurn.busyInput = false ∧ ∃ g, s.seq = .run .refreshCoop g 3) := by
  rcases step_cases hstep with ⟨ht, -, -⟩ | ⟨g, ht, -, hhost⟩ | ⟨l, hl, -⟩ | ⟨m, -, rfl⟩ | ⟨b, -, rfl⟩
  · rcases step_seq_next h ht hstep with rfl | ⟨op, g, pc, hq, k⟩
    · exact .inl rfl
    · rcases k.lbusy with e | ⟨hflag, rfl, rfl, hb⟩
      · exact .inl e
      · exact .inr (.inr ⟨hflag, ht, hb, g, hq⟩)
  · rcases State.hostStep_next hhost with rfl | k
    · exact .inl rfl
    · rcases k.lbusy with e | ⟨hmode, hflag, hseq, r, rest, hg, hp⟩
      · exact .inl e
      · exact .inr (.inl ⟨hflag, hmode, g, r, rest, ht, hg, hp, hseq⟩)
  · exact absurd hl (hr l)
  · exact .inl rfl
  · exact .inl rfl

/-- Settles O16: of the three cases the change of the flag leaves one. -/
theorem busyFlagLifecycle : Obligations.BusyFlagLifecycle := by
  unfold Obligations.BusyFlagLifecycle
  intro s t h hstep hr
  rcases step_lbusy h hstep hr with e | ⟨hflag, hrise⟩ | ⟨hflag, hfall⟩
  · exact ⟨fun h0 h1 => by simp [← e, h1] at h0, fun h1 h0 => by simp [← e, h0] at h1⟩
  · exact ⟨fun _ _ => hrise, fun _ h0 => by simp [hflag] at h0⟩
  · exact ⟨fun _ h1 => by simp [hflag] at h1, fun _ _ => hfall⟩

/-! The stopped block. -/

/-- The meaning of a host request is an issue step. -/
theorem exec_issue_of_request {i : Instr} (s : State) (hi : i.isRequest = true) : ∃ f, exec i s = s.issue f := by
  cases i with
  | init | refresh | powerOn | sleep | waitReady | waitDone | reserved0 | reserved7 | reserved8 =>
    simp only [exec, execInit, execRefresh, execPowerOn, execSleep, execWaitReady, execWaitDone, execReserved0,
      execReserved7, execReserved8]
    exact ⟨_, rfl⟩
  | _ => cases hi

/-- No instruction does anything in a stopped block. -/
theorem exec_stopped {s : State} (i : Instr) (hs : s.stopped = true) : exec i s = .fault .stopped := by
  cases hi : i.isRequest with
  | false =>
    obtain ⟨op, l, -, hexec⟩ := exec_seqCmd_of_not_request s hi
    rw [hexec, State.seqCmd, if_pos hs]
  | true =>
    obtain ⟨f, hexec⟩ := exec_issue_of_request s hi
    rw [hexec, State.issue_stopped f hs]

/-- Settles O12: every agent's turn and every instruction find the block stopped; the other turns leave the bits, but for
a block reset. -/
theorem stoppedBlockIsFinal : Obligations.StoppedBlockIsFinal := by
  unfold Obligations.StoppedBlockIsFinal
  intro s hs
  refine ⟨fun a => if_pos hs, fun a ht => step_stopped ht hs, fun i => exec_stopped i hs, fun hend => ?_,
    fun t hstep hr => ?_, fun l hl => ⟨_, step_blockReset hl, rfl⟩⟩
  · obtain ⟨htp, hbc⟩ := hend.noFault
    simp [State.stopped, htp, hbc] at hs
  · rcases step_cases hstep with ⟨-, hn, -⟩ | ⟨g, -, hn, -⟩ | ⟨l, hl, -⟩ | ⟨m, -, rfl⟩ | ⟨b, -, rfl⟩
    · simp [hs] at hn
    · simp [hs] at hn
    · exact absurd hl (hr l)
    · exact ⟨rfl, rfl⟩
    · exact ⟨rfl, rfl⟩

end Sys2Proof.Machine
end

section
/-! Issue steps that start something, and the steps of a host agent (30_encoding.md R111, R112; 43_busy_monitor.md R246,
R249; 10_state.md R40), each as a state equation. -/

namespace Sys2Proof.Machine

/-! Issue steps. -/

/-- With the port free a port-using issue outside the conflict of R111 is accepted. -/
theorem State.issueOnPort_accepted {s : State} (conflict accept : State → State) (hp : s.port = .free)
    (hn : ¬(s.mode = .coop ∧ s.lbusy = true)) : s.issueOnPort conflict accept = accept s := by
  rw [State.issueOnPort, hp]
  exact if_neg hn

/-- A port-using request of a free agent, so accepted. -/
theorem State.issue_accepted {s : State} (conflict accept : State → State) (hs : s.stopped = false)
    (hf : s.st? s.issuer = some .free) (hp : s.port = .free) (hn : ¬(s.mode = .coop ∧ s.lbusy = true)) :
    s.issue (fun t => t.issueOnPort conflict accept) = .next (accept s) := by
  rw [State.issue_free _ hs hf, State.issueOnPort_accepted _ _ hp hn]

/-- While the port is held a port-using request has no step. -/
theorem State.issue_held {s : State} (conflict accept : State → State) {g : Nat} (hs : s.stopped = false)
    (hp : s.port = .held g) : s.issue (fun t => t.issueOnPort conflict accept) = .next s := by
  rcases s.issue_cases (fun t => t.issueOnPort conflict accept) with ⟨hn, -⟩ | ⟨-, -, e⟩ | ⟨-, -, e⟩
  · simp [hs] at hn
  · exact e
  · rw [e, State.issueOnPort, hp]

/-- Settles O20: INIT's acceptance. -/
theorem initStarts : Obligations.InitStarts := by
  unfold Obligations.InitStarts
  intro s hs hf hp hn
  exact State.issue_accepted _ _ hs hf hp hn

/-- REFRESH of a free agent in `SYNC` mode, where there is no conflict. -/
theorem exec_refresh_sync {s : State} (hs : s.stopped = false) (hf : s.st? s.issuer = some .free)
    (hp : s.port = .free) (hm : s.mode = .sync) :
    exec .refresh s = .next (((s.accept .refresh .refreshSync).setRow 0).bookkeep) := by
  rw [exec, execRefresh, State.issue_accepted _ _ hs hf hp (by simp [hm]), hm]

/-- Settles O21: REFRESH's acceptance and its bookkeeping. -/
theorem refreshSyncStarts : Obligations.RefreshSyncStarts := by
  unfold Obligations.RefreshSyncStarts
  intro s hs hf hp hm
  rw [exec_refresh_sync hs hf hp hm, State.bookkeep_eq]
  rfl

/-- Settles O23: the acceptance of POWER_ON, with its bookkeeping, and of SLEEP. -/
theorem powerOnAndSleepStart : Obligations.PowerOnAndSleepStart := by
  unfold Obligations.PowerOnAndSleepStart
  intro s hs hf hp hn
  constructor
  · rw [exec, execPowerOn, State.issue_accepted _ _ hs hf hp hn, State.bookkeep_eq]
    rfl
  · exact State.issue_accepted _ _ hs hf hp hn

/-- Settles O26: WAIT_READY's issue step does not look at the port or the flag. -/
theorem waitReadyStarts : Obligations.WaitReadyStarts := by
  unfold Obligations.WaitReadyStarts
  intro s hs hf
  rw [exec, execWaitReady, State.issue_free _ hs hf]
  rfl

/-- WAIT_DONE of a free agent in `COOP` mode. -/
theorem exec_waitDone_coop {s : State} (hs : s.stopped = false) (hf : s.st? s.issuer = some .free)
    (hm : s.mode = .coop) :
    exec .waitDone s = .next ((s.setWaiters (insertId s.issuer s.waiters)).setSt s.issuer .waitDone) := by
  rw [exec, execWaitDone, State.issue_free _ hs hf, hm]

/-- Settles O27: WAIT_DONE's issue step by the mode. -/
theorem waitDoneRule : Obligations.WaitDoneRule := by
  unfold Obligations.WaitDoneRule
  intro s hs hf
  constructor
  · intro hm
    exact ⟨_, exec_waitDone_coop hs hf hm, fun h => mem_insertId h s.issuer s.waiters, rfl⟩
  · intro hm
    rw [exec_waitDone_sync hs hf hm, State.answer_of_issuer_free .illegal hf]

/-! Host agents' steps. -/

/-- A free host agent's turn is the line its program stands at. -/
theorem step_freeStep {s : State} {h : Nat} {r : HostAgent} (hs : s.stopped = false)
    (ht : s.nextTurn = .agent (.host h)) (hr : s.hosts[h]? = some r) (hst : r.st = .free) :
    step s = s.takeTurn.freeStep h r.prog := by
  rw [step_host ht hs, State.hostStep, State.takeTurn_hosts, hr]
  simp only [hst]

/-- The port holds off the four port-using words and no other. -/
theorem usesPort_decodeRequest : ∀ w : ReqWord, usesPort (decodeRequest w) = true ↔ w ∈ [0x1, 0x2, 0x3, 0x4] := by
  decide

/-- An issue that the port holds off takes nothing off the program. -/
theorem State.freeStep_held {s : State} {h g : Nat} {w : ReqWord} (rest : List HostAction)
    (hw : w ∈ [0x1, 0x2, 0x3, 0x4]) (hp : s.port = .held g) : s.freeStep h (.request w :: rest) = .next s := by
  have hheld : s.issueHeld (decodeRequest w) = true := by
    simp [State.issueHeld, (usesPort_decodeRequest w).mpr hw, hp]
  rw [State.freeStep, if_pos hheld]

/-- An issue that the port does not hold off is the meaning of the word's instruction. -/
theorem State.freeStep_request {s : State} {h : Nat} {w : ReqWord} (rest : List HostAction)
    (hp : w ∈ [0x1, 0x2, 0x3, 0x4] → s.port = .free) :
    s.freeStep h (.request w :: rest) = exec (decodeRequest w) (s.beginIssue h rest) := by
  have hheld : ¬ s.issueHeld (decodeRequest w) = true := by
    simpa [State.issueHeld, usesPort_decodeRequest] using hp
  rw [State.freeStep, if_neg hheld]

/-- Settles O25: the port decides at the program's line and in the meaning; the holder's response frees it. -/
theorem heldPortHoldsIssue : Obligations.HeldPortHoldsIssue := by
  unfold Obligations.HeldPortHoldsIssue
  refine ⟨fun s h g r w rest hs ht hr hst hprog hw hp => ?_, fun s i g hi hs hp => ?_, fun s g c hp => ?_,
    fun s h i hs ht hst => ?_⟩
  · rw [step_freeStep hs ht hr hst, hprog]
    exact State.freeStep_held rest hw hp
  · simp only [List.mem_cons, List.not_mem_nil, or_false] at hi
    rcases hi with rfl | rfl | rfl | rfl <;> exact State.issue_held _ _ hs hp
  · rw [State.respond_eq]
    exact if_pos hp
  · obtain ⟨r, hr, hpend⟩ := Option.map_eq_some_iff.mp hst
    rw [step_host ht hs, State.hostStep, State.takeTurn_hosts, hr]
    simp only [hpend]

/-- Settles O59: the word is taken off the program and its instruction's meaning is what happens. -/
theorem stepRunsRequest : Obligations.StepRunsRequest := by
  unfold Obligations.StepRunsRequest
  intro s h r w rest hs ht hr hst hprog hp
  rw [step_freeStep hs ht hr hst, hprog]
  exact State.freeStep_request rest hp

/-- The list of host agents after an update of one that is there. -/
theorem modify_eq_set {l : List HostAgent} {h : Nat} {r : HostAgent} (f : HostAgent → HostAgent)
    (hr : l[h]? = some r) : l.modify h f = l.set h (f r) := by
  simp [List.modify_eq_set_getElem?, hr]

/-- Settles O54: the line of the program and the word of the sample are one update of the agent. -/
theorem statusReadStep : Obligations.StatusReadStep := by
  unfold Obligations.StatusReadStep
  intro s h r rest hs ht hr hst hprog
  have hhosts : (s.hosts.modify h fun r => { r with prog := rest }).modify h
      (fun r => { r with status := some (s.takeTurn.statusWord s.takeTurn.busyInput) }) =
      s.hosts.set h { r with prog := rest, status := some (s.takeTurn.statusWord s.takeTurn.busyInput) } := by
    rw [List.modify_modify_eq, modify_eq_set _ hr]
    rfl
  rw [step_freeStep hs ht hr hst, hprog, ← hhosts]
  rfl

/-- The turn of a host agent that owes the yield of WAIT_READY. -/
theorem step_waitReady_first {s : State} {h : Nat} {r : HostAgent} (hs : s.stopped = false)
    (ht : s.nextTurn = .agent (.host h)) (hr : s.hosts[h]? = some r) (hst : r.st = .waitReady true) :
    step s = .next (s.takeTurn.yield.setSt h (.waitReady false)) := by
  rw [step_host ht hs, State.hostStep, State.takeTurn_hosts, hr]
  simp only [hst]

/-- The turn of a host agent that polls in WAIT_READY. -/
theorem step_waitReady_poll {s : State} {h : Nat} {r : HostAgent} (hs : s.stopped = false)
    (ht : s.nextTurn = .agent (.host h)) (hr : s.hosts[h]? = some r) (hst : r.st = .waitReady false) :
    step s = .next (s.takeTurn.pollReady h) := by
  rw [step_host ht hs, State.hostStep, State.takeTurn_hosts, hr]
  simp only [hst]

/-- A poll that finds READY answers. -/
theorem State.pollReady_ready {s : State} (h : Nat) (hl : s.lbusy = false) (hb : s.busyInput = false) :
    s.pollReady h = s.sampleBusy.respond h .ok := by
  have hready : s.ready s.busyInput = true := by simp [State.ready, hl, hb]
  rw [State.pollReady, if_pos hready]

/-- A poll that does not, because of the flag or the sample. -/
theorem State.pollReady_busy {s : State} (h : Nat) (hbusy : s.lbusy = true ∨ s.busyInput = true) :
    s.pollReady h = s.sampleBusy.delay Config.tPoll := by
  have hready : ¬ s.ready s.busyInput = true := by
    simpa [State.ready] using fun hl => hbusy.resolve_left (by simp [hl])
  rw [State.pollReady, if_neg hready]

/-- Settles O55: the first step yields, and the others poll. -/
theorem waitReadySteps : Obligations.WaitReadySteps := by
  unfold Obligations.WaitReadySteps
  intro s h r hs ht hr
  refine ⟨fun hst => ?_, fun hst hl hb => ?_, fun hst hbusy => ?_⟩
  · rw [step_waitReady_first hs ht hr hst, ← modify_eq_set (fun r => { r with st := .waitReady false }) hr]
    rfl
  · rw [step_waitReady_poll hs ht hr hst, State.pollReady_ready (s := s.takeTurn) h hl hb, State.respond_eq,
      State.sampleBusy_eq, hb, ← modify_eq_set (fun r => { r with st := .free }) hr]
    simp only [List.append_assoc]
    rfl
  · rw [step_waitReady_poll hs ht hr hst, State.pollReady_busy h hbusy]
    simp [State.sampleBusy_eq, State.delay, State.emit, State.setTrace]

/-- Settles O38: each of the three accesses is a test of its bounds. -/
theorem refusedAccesses : Obligations.RefusedAccesses := by
  unfold Obligations.RefusedAccesses
  refine ⟨fun _ => rfl, fun s a n h => if_pos h, fun s a n h => if_neg (Nat.not_le_of_lt h), ?_, ?_⟩
  · intro s h a v r rest hs ht hr hst hprog ha
    rw [step_freeStep hs ht hr hst, hprog]
    simp [State.freeStep, State.hostWrite, State.memWrite, Nat.not_lt_of_le ha]
  · intro s h a n r rest hs ht hr hst hprog ha
    rw [step_freeStep hs ht hr hst, hprog]
    simp [State.freeStep, State.hostRead, State.memRead, Nat.not_le_of_lt ha]

/-! The STATUS word. -/

/-- Settles O53: the word is its eight bits in order, and each situation fixes them all. -/
theorem statusWordBits : Obligations.StatusWordBits := by
  unfold Obligations.StatusWordBits
  have hidle : ∀ s : State, (!s.seq.isIdle) = decide (s.seq ≠ .idle) := by
    intro s
    cases s.seq <;> simp [Seq.isIdle]
  refine ⟨fun s b => ?_, fun s htp hbc => ⟨fun hm hq hl => ?_, fun hm hq hl => ?_, fun hm hq hl => ?_, fun hm hq hl => ?_⟩⟩
  · simp only [State.statusWord, hidle, BitVec.getLsbD_append, BitVec.getLsbD_ofBool]
    exact ⟨rfl, rfl, rfl, rfl, rfl, rfl, rfl, rfl⟩
  all_goals
    simp only [State.statusWord, State.ready, hidle, htp, hbc, hm, hq, hl, ne_eq, not_false_eq_true]
    rfl

end Sys2Proof.Machine
end

section
/-! The framebuffer (20_memory.md): what a read gives after a write, that a canonical list is fixed by its contents, the
accesses of a host agent, and where a pixel leaves the block. -/

namespace Sys2Proof.Machine

/-! The canonical list. -/

theorem Memory.wf_tail {c : Host.Cell} {m : List Host.Cell} (h : Memory.wf (c :: m)) : Memory.wf m :=
  ⟨(List.pairwise_cons.mp h.1).2, fun d hd => h.2 d (List.mem_cons_of_mem _ hd)⟩

/-- An offset below all that are listed reads as unlisted. -/
theorem Memory.read_of_lt {m : List Host.Cell} {a : Nat} (h : ∀ c ∈ m, a < c.1) : Memory.read m a = unlisted := by
  induction m with
  | nil => rfl
  | cons c m ih =>
    have hne : a ≠ c.1 := (h c List.mem_cons_self).ne
    rw [Memory.read, if_neg hne]
    exact ih fun d hd => h d (List.mem_cons_of_mem _ hd)

/-- The byte listed first is at an offset below all others. -/
theorem Memory.read_tail_of_le {b a : Nat} {w : Byte} {m : List Host.Cell} (h : Memory.wf ((b, w) :: m)) (ha : a ≤ b) :
    Memory.read m a = unlisted :=
  Memory.read_of_lt fun c hc => ha.trans_lt ((List.pairwise_cons.mp h.1).1 c hc)

/-- A read after a write, by the place where the write changes the list. -/
theorem Memory.read_write {m : List Host.Cell} (a b : Nat) (v : Byte) (h : Memory.wf m) :
    Memory.read (Memory.write m a v) b = if b = a then v else Memory.read m b := by
  induction m with
  | nil =>
    simp only [Memory.write]
    split_ifs <;> simp_all [Memory.read]
  | cons c m ih =>
    obtain ⟨d, w⟩ := c
    have hbelow : ∀ x, x ≤ d → Memory.read m x = unlisted := fun x hx => Memory.read_tail_of_le h hx
    simp only [Memory.write]
    split_ifs
    all_goals grind [Memory.read]

/-- The first byte of a canonical list is found, and is not an unlisted one. -/
theorem Memory.read_head {b : Nat} {w : Byte} {m : List Host.Cell} (h : Memory.wf ((b, w) :: m)) :
    Memory.read ((b, w) :: m) b = w ∧ w ≠ unlisted :=
  ⟨if_pos rfl, (h.2 (b, w) List.mem_cons_self).1⟩

/-- Of two canonical lists with the same contents neither starts before the other. -/
theorem Memory.head_le {a b : Nat} {v w : Byte} {m n : List Host.Cell} (hm : Memory.wf ((a, v) :: m))
    (hn : Memory.wf ((b, w) :: n)) (h : Memory.read ((a, v) :: m) a = Memory.read ((b, w) :: n) a) : b ≤ a := by
  by_contra hlt
  have hab : a < b := Nat.lt_of_not_le hlt
  obtain ⟨hread, hv⟩ := Memory.read_head hm
  have hnone : Memory.read ((b, w) :: n) a = unlisted := by
    rw [Memory.read, if_neg hab.ne]
    exact Memory.read_tail_of_le hn hab.le
  exact hv (by rw [← hread, h, hnone])

/-- Canonical lists with the same contents are equal: their first bytes are the same, and so are their rests. -/
theorem Memory.eq_of_read_eq {m n : List Host.Cell} (hm : Memory.wf m) (hn : Memory.wf n)
    (h : ∀ a, Memory.read m a = Memory.read n a) : m = n := by
  induction m generalizing n with
  | nil =>
    cases n with
    | nil => rfl
    | cons d n =>
      obtain ⟨hread, hd⟩ := Memory.read_head hn
      exact absurd (hread.symm.trans (h d.1).symm) hd
  | cons c m ih =>
    obtain ⟨a, v⟩ := c
    obtain ⟨hreadm, hv⟩ := Memory.read_head hm
    cases n with
    | nil => exact absurd (hreadm.symm.trans (h a)) hv
    | cons d n =>
      obtain ⟨b, w⟩ := d
      obtain rfl : a = b := Nat.le_antisymm (Memory.head_le hn hm (h b).symm) (Memory.head_le hm hn (h a))
      obtain rfl : v = w := hreadm.symm.trans ((h a).trans (Memory.read_head hn).1)
      have hrest : ∀ x, Memory.read m x = Memory.read n x := by
        intro x
        by_cases hx : x = a
        · rw [Memory.read_tail_of_le hm hx.le, Memory.read_tail_of_le hn hx.le]
        · have hcell := h x
          rwa [Memory.read, Memory.read, if_neg hx, if_neg hx] at hcell
      rw [ih (Memory.wf_tail hm) (Memory.wf_tail hn) hrest]

/-- Settles O57: the write changes one place of the list, and a canonical list is fixed by what it reads as. -/
theorem readAfterWrite : Obligations.ReadAfterWrite := by
  unfold Obligations.ReadAfterWrite
  exact ⟨fun m a b v => Memory.read_write a b v, fun m n => Memory.eq_of_read_eq⟩

/-! A host agent's accesses. -/

/-- Settles O56: the write is the memory's, and the read's bytes are those of the framebuffer. -/
theorem hostFramebufferAccess : Obligations.HostFramebufferAccess := by
  unfold Obligations.HostFramebufferAccess
  constructor
  · intro s h a v r rest hs hwf ht hr hst hprog ha
    have hstep : step s = .next { s with
        fb := Memory.write s.fb a v
        env := s.env.takeTurn
        hosts := s.hosts.set h { r with prog := rest } } := by
      rw [step_freeStep hs ht hr hst, hprog, State.freeStep, State.hostWrite, State.memWrite, if_pos ha,
        ← modify_eq_set (fun r => { r with prog := rest }) hr]
      rfl
    exact ⟨_, hstep, fun b => Memory.read_write a b v hwf, rfl⟩
  · intro s h a n r rest hs ht hr hst hprog ha
    have hhosts : ∀ l, (s.hosts.modify h fun r => { r with prog := rest }).modify h (fun r => { r with data := l }) =
        s.hosts.set h { r with prog := rest, data := l } := by
      intro l
      rw [List.modify_modify_eq, modify_eq_set _ hr]
      rfl
    rw [step_freeStep hs ht hr hst, hprog, State.freeStep, State.hostRead, State.memRead, if_pos ha, ← hhosts]
    rfl

/-! Pixels. -/

/-- Settles O58: byte `x / 8` of the row is the byte of the pixel, complemented, and the bit is inside it. -/
theorem pixelSentInverted : Obligations.PixelSentInverted := by
  unfold Obligations.PixelSentInverted
  intro s x y hx hy
  have hbyte : x / 8 < 25 := by omega
  have hbit : 7 - x % 8 < 8 := by omega
  refine ⟨rfl, ?_⟩
  rw [State.rowFrame, State.rowBytes, List.getElem?_map, Memory.readBytes_getElem _ _ _ _ hbyte]
  simp [State.pixel, pixelOffset, pixelBit, hbit]

end Sys2Proof.Machine
end

section
/-! Panel commands (30_encoding.md R104, 60_exceptions.md R353): what each sends, and what becomes of an operation that
holds the port when a frame fails. -/

namespace Sys2Proof.Machine
open Sys2Proof.Safety

/-! What each command sends. -/

/-- The parameter of display-update-control-2 inside INIT (41_reset_init.md R183). -/
theorem Seq.updateControl_init (h pc : Nat) : Seq.updateControl (.run .init h pc) = 0xB1 := rfl

/-- The parameter of display-update-control-2 outside INIT (44_refresh.md R273). -/
theorem Seq.updateControl_of_ne_init {q : Operation} (h pc : Nat) (hq : q ≠ .init) :
    Seq.updateControl (.run q h pc) = 0xC7 :=
  if_neg (by simpa [Seq.op?] using hq)

/-- A command of the map of R104 is sent with the opcode and the bytes the map gives for the running operation. -/
theorem exec_of_mem_commandBytes {s : State} {q : Operation} {h pc : Nat} {i : Instr} {op : Byte} {l : List Byte}
    (hq : s.seq = .run q h pc) (hm : (i, op, l) ∈ commandBytes s.cfg q) : exec i s = s.seqCmd op l := by
  have rows : ∀ e ∈ commandBytes s.cfg q, exec e.1 s = s.seqCmd e.2.1 e.2.2 := by
    unfold commandBytes
    split
    case isTrue hinit =>
      subst hinit
      have hupdate : exec .displayUpdateControl2 s = s.seqCmd 0x22 [0xB1] := by
        rw [exec, execDisplayUpdateControl2, hq, Seq.updateControl_init]
      simp only [initCommandBytes, waveformCommandBytes, List.cons_append, List.nil_append, List.forall_mem_cons]
      exact ⟨rfl, rfl, rfl, rfl, rfl, rfl, rfl, hupdate, rfl, rfl, rfl, rfl, rfl, rfl, rfl, rfl, by simp⟩
    case isFalse hinit =>
      have hupdate : exec .displayUpdateControl2 s = s.seqCmd 0x22 [0xC7] := by
        rw [exec, execDisplayUpdateControl2, hq, Seq.updateControl_of_ne_init h pc hinit]
      simp only [refreshPowerCommandBytes, List.forall_mem_cons]
      exact ⟨rfl, hupdate, rfl, rfl, by simp⟩
  exact rows (i, op, l) hm

/-- A `Cmd` whose frames are answered with success adds their events and takes their results. -/
theorem State.cmd_sent {s : State} {op : Byte} {l : List Byte} (hl : s.live = true)
    (hf : FramesSucceed (cmdTrace op l).length s) : s.cmd op l = { s with
      env := Env.takeOk^[(cmdTrace op l).length] s.env
      trace := s.trace ++ cmdTrace op l } := by
  cases l with
  | nil =>
    obtain ⟨h1, -⟩ := hf
    rw [State.cmd_ok op [] hl h1 (by simp)]
    rfl
  | cons b bs =>
    obtain ⟨h1, h2, -⟩ := hf
    rw [State.cmd_ok op (b :: bs) hl h1 (fun _ => h2)]
    rfl

/-- A command of the map in a running operation, its frames answered with success. -/
theorem exec_sent {s : State} {q : Operation} {h pc : Nat} {i : Instr} {op : Byte} {l : List Byte}
    (hm : (i, op, l) ∈ commandBytes s.cfg q) (hs : s.stopped = false) (hq : s.seq = .run q h pc)
    (ht : s.env.tpSilent = false) (hf : FramesSucceed (cmdTrace op l).length s) :
    exec i s = .next { s with
      env := Env.takeOk^[(cmdTrace op l).length] s.env
      trace := s.trace ++ cmdTrace op l } := by
  have hl := State.live_of_run hs hq
  rw [exec_of_mem_commandBytes hq hm, State.seqCmd_live op l hl ht, State.cmd_sent hl hf]

/-- Settles O30: these are commands of the map for INIT. -/
theorem initCommandsSend : Obligations.InitCommandsSend := by
  unfold Obligations.InitCommandsSend
  intro s h pc i op l hm hs hq ht hf
  exact exec_sent (List.mem_append_left _ hm) hs hq ht hf

/-- Settles O31: these are commands of the map for INIT too. -/
theorem waveformCommandsSend : Obligations.WaveformCommandsSend := by
  unfold Obligations.WaveformCommandsSend
  intro s h pc i op l hm hs hq ht hf
  exact exec_sent (q := .init) (List.mem_append_right _ hm) hs hq ht hf

/-- Settles O32: these are the commands of the map for every other operation. -/
theorem refreshAndPowerCommandsSend : Obligations.RefreshAndPowerCommandsSend := by
  unfold Obligations.RefreshAndPowerCommandsSend
  intro s q h pc i op l hm hs hq hinit ht hf
  exact exec_sent (by rw [commandBytes, if_neg hinit]; exact hm) hs hq ht hf

/-- Settles O37: where SEQ has no step a `Cmd` is not begun. -/
theorem panelCommandWithoutStep : Obligations.PanelCommandWithoutStep := by
  unfold Obligations.PanelCommandWithoutStep
  intro i s hi hs hno
  obtain ⟨op, l, -, hexec⟩ := exec_seqCmd_of_not_request s hi
  rw [hexec]
  refine State.seqCmd_no_step op l hs (hno.imp_left fun hq => ?_)
  rw [hq]
  rfl

/-! Failed frames. -/

/-- `abort TransportError` of an operation that holds the port. -/
theorem State.abort_released {s : State} {q : Operation} {h pc : Nat} (hq : s.seq = .run q h pc)
    (hop : q ≠ .refreshCoop) (hp : s.port = .held h) : s.abort = { s with
      trace := s.trace ++ [.resp h .transportError]
      seq := .idle
      hosts := s.hosts.modify h (fun r => r.setSt .free)
      port := .free } := by
  rw [State.abort_holding hq hop, State.respond_eq, State.setSeq_port, if_pos hp]
  rfl

/-- Settles O33: the failed frame is the command's only one, and it ends the operation. -/
theorem failedFrameAbortsOperation : Obligations.FailedFrameAbortsOperation := by
  unfold Obligations.FailedFrameAbortsOperation
  intro s i op q h pc he hs hq hop hp ht hr
  rw [exec_command_failed he (State.live_of_run hs hq) ht hr, State.abort_released (by exact hq) hop (by exact hp)]
  simp only [List.append_assoc]
  rfl

/-- A `Cmd` whose command frame is answered with success and whose data frame fails. -/
theorem State.cmd_data_failed {s : State} (op : Byte) {l : List Byte} (hl : s.live = true) (hne : l ≠ [])
    (h1 : s.tpResult = true) (h2 : (s.setEnv s.env.takeOk).tpResult = false) :
    s.cmd op l = State.abort { s with
      env := s.env.takeOk.takeOk
      trace := s.trace ++ [.frame .command [op] true, .frame .data l false]
      panel := .undefined } := by
  obtain ⟨b, bs, rfl⟩ := List.exists_cons_of_ne_nil hne
  have hfirst := State.sendFrame_ok .command [op] h1
  have hlive : (s.sendFrame .command [op]).live = true := by
    rw [hfirst]
    exact hl
  have hsecond : (s.sendFrame .command [op]).tpResult = false := by
    rw [hfirst]
    exact h2
  rw [State.cmd, State.sendCmd, State.andThen, if_pos hlive, State.sendFrame_failed _ _ hsecond, hfirst]
  simp only [List.append_assoc]
  rfl

/-- Settles O34: the command's second frame fails, and it ends the operation. -/
theorem failedDataFrameAborts : Obligations.FailedDataFrameAborts := by
  unfold Obligations.FailedDataFrameAborts
  intro s i op l q h pc hm hne hs hq hop hp ht h1 h2
  have hl := State.live_of_run hs hq
  rw [exec_of_mem_commandBytes hq hm, State.seqCmd_live op l hl ht, State.cmd_data_failed op hl hne h1 h2,
    State.abort_released (by exact hq) hop (by exact hp)]
  simp only [List.append_assoc]
  rfl

/-! The step of one command. -/

/-- Statements that use the transport, but for a row, are performed when the transport answers. -/
theorem State.runEntry_of_answers {original s : State} {body : List Stmt} (ht : s.env.tpSilent = false)
    (hrow : Stmt.row ∈ body → s.row < Config.height) : original.runEntry s body = .next (s.runStmts body) := by
  simp only [State.runEntry, ht, Bool.false_and, Bool.false_eq_true, if_false]
  by_cases hr : Stmt.row ∈ body
  · simp [hrow hr]
  · simp [hr]

/-- SEQ's turn at an entry, the transport answering. -/
theorem step_entry {s : State} {op : Operation} {h pc : Nat} {body : List Stmt} (ht : s.nextTurn = .agent .seq)
    (hs : s.stopped = false) (hq : s.seq = .run op h pc) (hb : (stepTable op)[pc]? = some body)
    (hsilent : s.env.tpSilent = false) (hrow : Stmt.row ∈ body → s.row < Config.height) :
    step s = .next (s.takeTurn.runStmts body) := by
  rw [step_seq ht hs, State.seqStep_run (s := s.takeTurn) hq hb]
  exact State.runEntry_of_answers (by simpa using hsilent) hrow

/-- A command and the `pc` update after it, where the operation goes on. -/
theorem State.runStmts_send_advance {s t : State} {i : Instr} (h : exec i s = .next t) :
    s.runStmts [.send i, .advance] = if t.live = true then { t with seq := t.seq.advance } else t := by
  have hsend : s.runStmt (.send i) = t := by rw [State.runStmt, h, answeredState]
  rw [State.runStmts, hsend, State.andThen, State.runStmts_single]
  rfl

/-- Settles O60: whether SEQ stands at the entry or inside it, the two statements are what it performs. -/
theorem stepRunsCommand : Obligations.StepRunsCommand := by
  unfold Obligations.StepRunsCommand
  intro s t i op h pc hs ht hsilent hplace hexec
  rw [← State.runStmts_send_advance hexec]
  rcases hplace with ⟨hq, hentry⟩ | hq
  · have hb : (stepTable op)[pc]? = some [.send i, .advance] := by
      simp only [List.mem_cons, Prod.mk.injEq, List.not_mem_nil, or_false] at hentry
      rcases hentry with ⟨rfl, rfl, rfl⟩ | ⟨rfl, rfl, rfl⟩ | ⟨rfl, rfl, rfl⟩ <;> rfl
    rw [step_entry ht hs hq hb hsilent (by simp), ← hq]
    rfl
  · rw [step_seq ht hs]
    simp only [State.seqStep, State.takeTurn_seq, hq]
    exact State.runEntry_of_answers (by simpa using hsilent) (by simp)

end Sys2Proof.Machine
end

section
/-! Runs of SEQ steps, the draws given (00_scope.md R10, log 1, 4): one run after another, and the runs the operations are
made of: a poll, a sequence of commands, the rows of a framebuffer, the end of an operation. -/

namespace Sys2Proof.Machine
open Sys2Proof.Safety

/-! Runs. -/

/-- The first step of a run. -/
theorem runFor_succ {s t : State} (n : Nat) (h : step s = .next t) : runFor (n + 1) s = runFor n t := by
  have hcore : Sys2Proof.core.step s = .next t := h
  simp only [runFor, Host.Core.run, hcore]
  rfl

/-- A run in two parts. -/
theorem runFor_add {m : Nat} {s t : State} (n : Nat) (h : runFor m s = .next t) : runFor (m + n) s = runFor n t := by
  induction m generalizing s with
  | zero =>
    cases h
    rw [Nat.zero_add]
  | succ m ih =>
    cases hstep : step s with
    | next u =>
      rw [runFor_succ m hstep] at h
      rw [Nat.succ_add, runFor_succ _ hstep, ih h]
    | fault r =>
      have hcore : Sys2Proof.core.step s = .fault r := hstep
      simp [runFor, Host.Core.run, hcore] at h
    | refused r =>
      have hcore : Sys2Proof.core.step s = .refused r := hstep
      simp [runFor, Host.Core.run, hcore] at h

/-- `s` with the turns, BUSY samples and transport results still to come. -/
def State.withDraws (s : State) (ts : List Turn) (bs os : List Bool) : State :=
  { s with env := { s.env with turns := ts, busy := bs, ok := os } }

/-- `n` turns of SEQ in which BUSY reads `bs` and `m` frames are answered with success lead from `s` to `t`, whatever
draws follow. -/
def SeqRuns (n : Nat) (bs : List Bool) (m : Nat) (s t : State) : Prop :=
  ∀ ts bs' os, runFor n (s.withDraws (List.replicate n (.agent .seq) ++ ts) (bs ++ bs') (List.replicate m true ++ os)) =
    .next (t.withDraws ts bs' os)

theorem SeqRuns.trans {n n' m m' : Nat} {bs bs' : List Bool} {s t u : State} (h : SeqRuns n bs m s t)
    (k : SeqRuns n' bs' m' t u) : SeqRuns (n + n') (bs ++ bs') (m + m') s u := by
  intro ts cs os
  rw [List.replicate_add, List.replicate_add, List.append_assoc, List.append_assoc, List.append_assoc,
    runFor_add n' (h _ _ _), k]

/-- A run whose draws are those at the head of the state's own lists. -/
theorem SeqRuns.runFor_eq {n m : Nat} {bs bs' os : List Bool} {ts : List Turn} {s t : State} (h : SeqRuns n bs m s t)
    (hturns : s.env.turns = List.replicate n (.agent .seq) ++ ts) (hbusy : s.env.busy = bs ++ bs')
    (hok : s.env.ok = List.replicate m true ++ os) : runFor n s = .next (t.withDraws ts bs' os) := by
  have hs : s = s.withDraws s.env.turns s.env.busy s.env.ok := rfl
  rw [hs, hturns, hbusy, hok]
  exact h ts bs' os

/-- A run of one step. -/
theorem SeqRuns.of_step {bs : List Bool} {m : Nat} {s t : State}
    (h : ∀ ts bs' os, step (s.withDraws (.agent .seq :: ts) (bs ++ bs') (List.replicate m true ++ os)) =
      .next (t.withDraws ts bs' os)) : SeqRuns 1 bs m s t := by
  intro ts bs' os
  rw [List.replicate_one, List.singleton_append, runFor_succ 0 (h ts bs' os)]
  rfl

/-- A step from an entry without a frame. -/
theorem SeqRuns.of_entry_of_no_transport {bs : List Bool} {s t : State} {op : Operation} {h pc : Nat}
    {body : List Stmt} (hs : s.stopped = false) (hq : s.seq = .run op h pc) (hb : (stepTable op)[pc]? = some body)
    (hu : body.any Stmt.usesTransport = false)
    (hrun : ∀ ts bs' os, (s.withDraws ts (bs ++ bs') os).runStmts body = t.withDraws ts bs' os) :
    SeqRuns 1 bs 0 s t := by
  refine SeqRuns.of_step fun ts bs' os => ?_
  rw [step_entry_of_no_transport (s := s.withDraws (.agent .seq :: ts) (bs ++ bs') (List.replicate 0 true ++ os)) rfl hs hq
    hb hu, ← hrun ts bs' os]
  rfl

/-- A step from an entry with frames, the transport answering. -/
theorem SeqRuns.of_entry {m : Nat} {s t : State} {op : Operation} {h pc : Nat} {body : List Stmt}
    (hs : s.stopped = false) (hq : s.seq = .run op h pc) (hb : (stepTable op)[pc]? = some body)
    (hsilent : s.env.tpSilent = false) (hrow : Stmt.row ∈ body → s.row < Config.height)
    (hrun : ∀ ts bs os, (s.withDraws ts bs (List.replicate m true ++ os)).runStmts body = t.withDraws ts bs os) :
    SeqRuns 1 [] m s t := by
  refine SeqRuns.of_step fun ts bs os => ?_
  rw [step_entry (s := s.withDraws (.agent .seq :: ts) ([] ++ bs) (List.replicate m true ++ os)) rfl hs hq hb hsilent hrow,
    ← hrun ts bs os]
  rfl

/-! Polls. -/

/-- Nothing run. -/
theorem SeqRuns.refl (s : State) : SeqRuns 0 [] 0 s s := fun _ _ _ => rfl

/-- `k` busy samples of an entry that is one poll, of either kind. -/
theorem seqRuns_busy {s : State} {c : Stmt} {op : Operation} {h pc : Nat} (k : Nat)
    (hb : (stepTable op)[pc]? = some [c]) (hu : Stmt.usesTransport c = false)
    (hc : ∀ u : State, u.busyInput = true → u.runStmt c = { u with
      env := u.env.takeBusy
      trace := u.trace ++ [.busy true, .delay Config.tPoll] })
    (hs : s.stopped = false) (hq : s.seq = .run op h pc) :
    SeqRuns k (List.replicate k true) 0 s { s with trace := s.trace ++ busyTrace k } := by
  induction k generalizing s with
  | zero => simpa [busyTrace] using SeqRuns.refl s
  | succ k ih =>
    have hfirst : SeqRuns 1 [true] 0 s { s with trace := s.trace ++ [.busy true, .delay 100] } := by
      refine SeqRuns.of_entry_of_no_transport hs hq hb (by simp [hu]) fun ts bs os => ?_
      rw [State.runStmts_single, hc _ rfl]
      rfl
    have hrun := hfirst.trans (ih (s := { s with trace := s.trace ++ [.busy true, .delay 100] }) hs hq)
    rw [Nat.add_comm 1] at hrun
    simpa [busyTrace, List.replicate_succ] using hrun

/-- A poll of `k` busy samples and one that is not. -/
theorem seqRuns_poll {s : State} {op : Operation} {h pc : Nat} (k : Nat) (hpoll : (op, pc) ∈ pollEntries)
    (hs : s.stopped = false) (hq : s.seq = .run op h pc) :
    SeqRuns (k + 1) (List.replicate k true ++ [false]) 0 s { s with
      trace := s.trace ++ busyTrace k ++ [.busy false]
      seq := .run op h (pc + 1) } := by
  have hb := stepTable_of_mem_pollEntries hpoll
  refine (seqRuns_busy k hb rfl (fun u => State.runStmt_poll_busy) hs hq).trans
    (SeqRuns.of_entry_of_no_transport (bs := [false]) (by exact hs) (by exact hq) hb rfl fun ts bs os => ?_)
  rw [State.runStmts_single, State.runStmt_poll_ready rfl]
  simp [State.withDraws, hq, Seq.advance, Env.takeBusy]

/-- Settles O40: the repeated poll, its turns and samples taken from the state's lists. -/
theorem pollRepeatsUntilReady : Obligations.PollRepeatsUntilReady := by
  unfold Obligations.PollRepeatsUntilReady
  intro s op h pc k ts bs hpoll hs hq hturns hbusy
  exact (seqRuns_poll k hpoll hs hq).runFor_eq (os := s.env.ok) hturns (by rw [hbusy]; simp) rfl

/-! Entries that yield. -/

/-- A statement that leaves an operation running, and the yield that ends the entry. -/
theorem State.runStmts_yield {s : State} {c : Stmt} {op : Operation} {h pc : Nat}
    (hs : (s.runStmt c).stopped = false) (hq : (s.runStmt c).seq = .run op h pc) :
    s.runStmts [c, .yield] = (s.runStmt c).yield := by
  rw [State.runStmts_cons_live _ (State.live_of_run hs hq), State.runStmts_single]
  rfl

/-- The end of an entry that moves on and yields. -/
theorem State.runStmts_advance_yield {s : State} {op : Operation} {h pc : Nat} (hs : s.stopped = false)
    (hq : s.seq = .run op h pc) : s.runStmts [.advance, .yield] = { s with
      seq := .run op h (pc + 1)
      trace := s.trace ++ [.yield] } := by
  have hseq : (s.runStmt .advance).seq = .run op h (pc + 1) := congrArg Seq.advance hq
  rw [State.runStmts_yield (c := .advance) (by exact hs) hseq, ← hseq]
  rfl

/-! Commands. -/

/-- The frames of a sequence of commands, all answered with success. -/
def commandsTrace (cs : List (Instr × Byte × List Byte)) : List Event := cs.flatMap fun c => cmdTrace c.2.1 c.2.2

/-- The results of frames that are all given as successes. -/
theorem framesSucceed_replicate {s : State} {n : Nat} {os : List Bool}
    (hok : s.env.ok = List.replicate n true ++ os) : FramesSucceed n s := by
  induction n generalizing s with
  | zero => trivial
  | succ n ih =>
    rw [List.replicate_succ, List.cons_append] at hok
    refine ⟨by simp only [State.tpResult, hok], ih ?_⟩
    simp only [State.setEnv_env, Env.takeOk, hok]

/-- Taking them. -/
theorem takeOk_iterate_replicate {e : Env} {n : Nat} {os : List Bool} (hok : e.ok = List.replicate n true ++ os) :
    Env.takeOk^[n] e = { e with ok := os } := by
  induction n generalizing e with
  | zero =>
    rw [List.replicate_zero, List.nil_append] at hok
    subst hok
    rfl
  | succ n ih =>
    rw [List.replicate_succ, List.cons_append] at hok
    have htake : e.takeOk = { e with ok := List.replicate n true ++ os } := by simp only [Env.takeOk, hok]
    rw [Function.iterate_succ_apply, htake, ih rfl]

/-- Commands of the map at the head of an entry, all their frames answered with success. -/
theorem State.runStmts_sent {s : State} {q : Operation} {h pc : Nat} (cs : List (Instr × Byte × List Byte))
    (rest : List Stmt) (ts : List Turn) (bs os : List Bool) (hcs : ∀ c ∈ cs, c ∈ commandBytes s.cfg q)
    (hs : s.stopped = false) (hq : s.seq = .run q h pc) (ht : s.env.tpSilent = false) :
    (s.withDraws ts bs (List.replicate (commandsTrace cs).length true ++ os)).runStmts
      (sendSeq (cs.map Prod.fst) ++ rest) =
    (({ s with trace := s.trace ++ commandsTrace cs } : State).withDraws ts bs os).runStmts rest := by
  induction cs generalizing s with
  | nil => simp [commandsTrace, sendSeq]
  | cons c cs ih =>
    obtain ⟨i, op, l⟩ := c
    have hlen : (commandsTrace ((i, op, l) :: cs)).length = (cmdTrace op l).length + (commandsTrace cs).length := by
      simp [commandsTrace]
    have hok : (s.withDraws ts bs (List.replicate (commandsTrace ((i, op, l) :: cs)).length true ++ os)).env.ok =
        List.replicate (cmdTrace op l).length true ++ (List.replicate (commandsTrace cs).length true ++ os) := by
      rw [hlen, List.replicate_add, List.append_assoc]
      rfl
    have hexec := exec_sent (s := s.withDraws ts bs _) (hcs (i, op, l) List.mem_cons_self) hs hq ht
      (framesSucceed_replicate hok)
    rw [takeOk_iterate_replicate hok] at hexec
    have hsent : (s.withDraws ts bs (List.replicate (commandsTrace ((i, op, l) :: cs)).length true ++ os)).runStmt
        (.send i) = ({ s with trace := s.trace ++ cmdTrace op l } : State).withDraws ts bs
          (List.replicate (commandsTrace cs).length true ++ os) := by
      rw [State.runStmt, hexec]
      rfl
    have hlive : (({ s with trace := s.trace ++ cmdTrace op l } : State).withDraws ts bs
        (List.replicate (commandsTrace cs).length true ++ os)).live = true := State.live_of_run hs hq
    have hrest := ih (s := { s with trace := s.trace ++ cmdTrace op l })
      (fun d hd => hcs d (List.mem_cons_of_mem _ hd)) hs hq ht
    rw [List.map_cons, sendSeq, List.map_cons, List.cons_append, State.runStmts_cons_live _ (hsent ▸ hlive), hsent]
    refine hrest.trans ?_
    simp [commandsTrace]

/-- An entry that sends commands and moves on. -/
theorem seqRuns_sends {s : State} {q : Operation} {h pc : Nat} (cs : List (Instr × Byte × List Byte))
    (hb : (stepTable q)[pc]? = some (sendSeq (cs.map Prod.fst) ++ [.advance]))
    (hcs : ∀ c ∈ cs, c ∈ commandBytes s.cfg q) (hs : s.stopped = false) (hq : s.seq = .run q h pc)
    (ht : s.env.tpSilent = false) :
    SeqRuns 1 [] (commandsTrace cs).length s { s with
      trace := s.trace ++ commandsTrace cs
      seq := .run q h (pc + 1) } := by
  refine SeqRuns.of_entry hs hq hb ht (by simp [sendSeq]) fun ts bs os => ?_
  rw [State.runStmts_sent cs _ ts bs os hcs hs hq ht, State.runStmts_single]
  simp [State.withDraws, State.runStmt, State.setSeq, hq, Seq.advance]

/-- An entry that sends commands, moves on and yields. -/
theorem seqRuns_sends_yield {s : State} {q : Operation} {h pc : Nat} (cs : List (Instr × Byte × List Byte))
    (hb : (stepTable q)[pc]? = some (sendSeq (cs.map Prod.fst) ++ [.advance, .yield]))
    (hcs : ∀ c ∈ cs, c ∈ commandBytes s.cfg q) (hs : s.stopped = false) (hq : s.seq = .run q h pc)
    (ht : s.env.tpSilent = false) :
    SeqRuns 1 [] (commandsTrace cs).length s { s with
      trace := s.trace ++ commandsTrace cs ++ [.yield]
      seq := .run q h (pc + 1) } := by
  refine SeqRuns.of_entry hs hq hb ht (by simp [sendSeq]) fun ts bs os => ?_
  rw [State.runStmts_sent cs _ ts bs os hcs hs hq ht, State.runStmts_advance_yield (by exact hs) (by exact hq)]
  rfl

/-- The commands of ACTIVATE (44_refresh.md R273). -/
def activateCommands : List (Instr × Byte × List Byte) :=
  [(.displayUpdateControl2, 0x22, [0xC7]), (.masterActivation, 0x20, [])]

theorem mem_commandBytes_of_mem_activateCommands {q : Operation} (p : Params) (hq : q ≠ .init) :
    ∀ c ∈ activateCommands, c ∈ commandBytes p q := by
  rw [commandBytes, if_neg hq]
  simp [activateCommands, refreshPowerCommandBytes]

theorem commandsTrace_activateCommands : commandsTrace activateCommands = activateTrace := rfl

/-! Rows. -/

/-- A row whose frame is answered with success is sent and counted (44_refresh.md R271). -/
theorem State.sendRow_sent {s : State} (hl : s.live = true) (hr : s.tpResult = true) :
    s.sendRow = { s with
      env := s.env.takeOk
      trace := s.trace ++ [rowEvent s.fb s.row]
      row := s.row + 1 } := by
  have hevent : Event.frame .data (s.rowFrame s.row) true = rowEvent s.fb s.row := by
    rw [rowEvent, State.rowFrame, State.rowBytes, Nat.mul_comm]
  rw [State.sendRow, State.sendFrame_ok _ _ hr, hevent]
  exact if_pos hl

/-- A row and the rest of its entry. -/
theorem State.runStmts_row {s : State} {op : Operation} {h pc : Nat} (cs : List Stmt) (hs : s.stopped = false)
    (hq : s.seq = .run op h pc) (hr : s.tpResult = true) :
    s.runStmts (.row :: cs) = State.runStmts { s with
      env := s.env.takeOk
      trace := s.trace ++ [rowEvent s.fb s.row]
      row := s.row + 1 } cs := by
  have hrow := State.sendRow_sent (State.live_of_run hs hq) hr
  have hlive : (s.runStmt .row).live = true := by
    rw [State.runStmt, hrow]
    exact State.live_of_run hs hq
  rw [State.runStmts_cons_live cs hlive, State.runStmt, hrow]

/-- Where SEQ goes on after a row: the entry again while rows are left. -/
theorem State.runStmt_next {s : State} {op : Operation} {h pc : Nat} (again exit : Nat) (hq : s.seq = .run op h pc) :
    s.runStmt (.next again exit) = { s with seq := .run op h (if s.row < 200 then again else exit) } := by
  rw [State.runStmt, hq]
  rfl

/-- The end of a row entry that yields. -/
theorem State.runStmts_next_yield {s : State} {op : Operation} {h pc : Nat} (again exit : Nat) (hs : s.stopped = false)
    (hq : s.seq = .run op h pc) : s.runStmts [.next again exit, .yield] = { s with
      seq := .run op h (if s.row < 200 then again else exit)
      trace := s.trace ++ [.yield] } := by
  have hnext := State.runStmt_next again exit hq
  rw [State.runStmts_yield (by rw [hnext]; exact hs) (congrArg State.seq hnext), hnext]
  rfl

/-- The first step of the background refresh: the write-RAM command and a row (44_refresh.md R276 entry 0). -/
theorem step_firstRow {s : State} {h : Nat} (ht : s.nextTurn = .agent .seq) (hs : s.stopped = false)
    (hrow : s.row < 200) (hsilent : s.env.tpSilent = false) (hq : s.seq = .run .refreshCoop h 0)
    (hf : FramesSucceed 2 s.takeTurn) : step s = .next { s with
      env := s.env.takeTurn.takeOk.takeOk
      trace := s.trace ++ [.frame .command [s.cfg.ops.writeRamBw] true, rowEvent s.fb s.row, .yield]
      row := s.row + 1
      seq := .run .refreshCoop h 1 } := by
  obtain ⟨h1, h2, -⟩ := hf
  have hsent : s.takeTurn.runStmt (.send .writeRamBw) = { s with
      env := s.env.takeTurn.takeOk
      trace := s.trace ++ [.frame .command [s.cfg.ops.writeRamBw] true] } := by
    have hexec := exec_sent (s := s.takeTurn) (q := .refreshCoop) (i := .writeRamBw) (op := s.cfg.ops.writeRamBw)
      (l := []) List.mem_cons_self hs hq (by simpa using hsilent) ⟨h1, trivial⟩
    rw [State.runStmt, hexec]
    rfl
  have hlive : (s.takeTurn.runStmt (.send .writeRamBw)).live = true := by
    rw [hsent]
    exact State.live_of_run hs hq
  rw [step_entry ht hs hq rfl hsilent (fun _ => hrow), State.runStmts_cons_live _ hlive, hsent,
    State.runStmts_row _ (by exact hs) (by exact hq) (by exact h2),
    State.runStmts_advance_yield (by exact hs) (by exact hq)]
  simp only [List.append_assoc]
  rfl

/-- Entry `again` of `op` sends one row, adds the events `after`, and is left for entry `exit` after the last row. -/
def IsRowEntry (op : Operation) (again exit : Nat) (after : List Event) : Prop :=
  ∀ (s : State) (h : Nat), s.nextTurn = .agent .seq → s.stopped = false → s.row < 200 → s.env.tpSilent = false →
    s.takeTurn.tpResult = true → s.seq = .run op h again → step s = .next { s with
      env := s.env.takeTurn.takeOk
      trace := s.trace ++ rowEvent s.fb s.row :: after
      row := s.row + 1
      seq := .run op h (if s.row + 1 < 200 then again else exit) }

/-- The row entry of the blocking refresh (44_refresh.md R272 entry 2). -/
theorem isRowEntry_refreshSync : IsRowEntry .refreshSync 2 3 [] := by
  intro s h ht hs hrow hsilent hr hq
  rw [step_entry ht hs hq rfl hsilent (fun _ => hrow), State.runStmts_row (s := s.takeTurn) _ hs hq hr,
    State.runStmts_single, State.runStmt_next 2 3 (by exact hq)]
  rfl

/-- The row entry of the background refresh (44_refresh.md R276 entry 1). -/
theorem isRowEntry_refreshCoop : IsRowEntry .refreshCoop 1 2 [.yield] := by
  intro s h ht hs hrow hsilent hr hq
  rw [step_entry ht hs hq rfl hsilent (fun _ => hrow), State.runStmts_row (s := s.takeTurn) _ hs hq hr,
    State.runStmts_next_yield 1 2 (by exact hs) (by exact hq)]
  simp only [List.append_assoc]
  rfl

/-- Settles O46: the three entries that send a row. -/
theorem rowStepRule : Obligations.RowStepRule := by
  unfold Obligations.RowStepRule
  intro s h ht hs hrow hsilent hr
  exact ⟨isRowEntry_refreshSync s h ht hs hrow hsilent hr, isRowEntry_refreshCoop s h ht hs hrow hsilent hr,
    step_firstRow ht hs hrow hsilent⟩

/-- One row, its frame answered with success. -/
theorem IsRowEntry.seqRuns {op : Operation} {again exit : Nat} {after : List Event}
    (hentry : IsRowEntry op again exit after) {s : State} {h : Nat} (hs : s.stopped = false)
    (hq : s.seq = .run op h again) (hsilent : s.env.tpSilent = false) (hrow : s.row < 200) :
    SeqRuns 1 [] 1 s { s with
      trace := s.trace ++ rowEvent s.fb s.row :: after
      row := s.row + 1
      seq := .run op h (if s.row + 1 < 200 then again else exit) } :=
  SeqRuns.of_step fun ts bs os => hentry (s.withDraws (.agent .seq :: ts) bs (true :: os)) h rfl hs hrow hsilent rfl hq

/-- The rows from `S.row` to the last. -/
theorem IsRowEntry.seqRuns_rows {op : Operation} {again exit : Nat} {after : List Event}
    (hentry : IsRowEntry op again exit after) {s : State} {h : Nat} (j : Nat) (hs : s.stopped = false)
    (hq : s.seq = .run op h again) (hsilent : s.env.tpSilent = false) (hrow : s.row + (j + 1) = 200) :
    SeqRuns (j + 1) [] (j + 1) s { s with
      trace := s.trace ++ (List.range' s.row (j + 1)).flatMap (fun r => rowEvent s.fb r :: after)
      row := 200
      seq := .run op h exit } := by
  induction j generalizing s with
  | zero =>
    have hlast : s.row + 1 = 200 := hrow
    have hfirst := hentry.seqRuns hs hq hsilent (by omega)
    simpa [hlast, List.range'_succ] using hfirst
  | succ j ih =>
    have hmore : s.row + 1 < 200 := by omega
    have hfirst := hentry.seqRuns hs hq hsilent (by omega)
    rw [if_pos hmore] at hfirst
    have hrest := ih (s := { s with
      trace := s.trace ++ rowEvent s.fb s.row :: after
      row := s.row + 1
      seq := .run op h again }) hs rfl hsilent (by exact (by omega : s.row + 1 + (j + 1) = 200))
    have hrun := hfirst.trans hrest
    rw [Nat.add_comm 1] at hrun
    simpa [List.range'_succ] using hrun

/-! The end of an operation. -/

/-- SEQ idle, the requester answered `OK` and free, the port free. -/
def State.released (s : State) (h : Nat) : State := { s with
  trace := s.trace ++ [.resp h .ok]
  seq := .idle
  hosts := s.hosts.modify h (fun r => r.setSt .free)
  port := .free }

/-- The end of an operation that holds the port. -/
theorem State.finish_released {s : State} {op : Operation} {h pc : Nat} (hq : s.seq = .run op h pc)
    (hp : s.port = .held h) : s.finish = s.released h := by
  rw [State.finish_run hq, if_pos hp]
  rfl

/-- An entry that is `finish` alone. -/
theorem seqRuns_finish {s : State} {op : Operation} {h pc : Nat} (hb : (stepTable op)[pc]? = some [.finish])
    (hs : s.stopped = false) (hq : s.seq = .run op h pc) (hp : s.port = .held h) :
    SeqRuns 1 [] 0 s (s.released h) := by
  refine SeqRuns.of_entry_of_no_transport hs hq hb rfl fun ts bs os => ?_
  rw [State.runStmts_single]
  exact State.finish_released (s := s.withDraws ts ([] ++ bs) os) hq hp

/-- An entry that writes the panel bookkeeping and is then `finish`. -/
theorem seqRuns_panel_finish {s : State} {c : Stmt} {op : Operation} {h pc : Nat} (panel : Panel)
    (hb : (stepTable op)[pc]? = some [c, .finish]) (hu : Stmt.usesTransport c = false)
    (hc : ∀ ts bs os, (s.withDraws ts bs os).runStmt c = ({ s with panel := panel } : State).withDraws ts bs os)
    (hs : s.stopped = false) (hq : s.seq = .run op h pc) (hp : s.port = .held h) :
    SeqRuns 1 [] 0 s (({ s with panel := panel } : State).released h) := by
  have hbody : [c, .finish].any Stmt.usesTransport = false := by
    rw [List.any_cons, hu]
    rfl
  refine SeqRuns.of_entry_of_no_transport hs hq hb hbody fun ts bs os => ?_
  rw [State.runStmts_cons_live _ (by rw [hc]; exact State.live_of_run hs hq), State.runStmts_single, hc]
  exact State.finish_released (s := ({ s with panel := panel } : State).withDraws ts ([] ++ bs) os) hq hp

end Sys2Proof.Machine
end

section
/-! The whole runs of the five operations, byte for byte (41_reset_init.md R187, 44_refresh.md R281, R282, 45_power.md
R310, R314), each the runs of its entries one after another; and what the traces of those runs count. -/

namespace Sys2Proof.Machine
open Sys2Proof.Safety

/-! SLEEP and POWER_ON. -/

/-- Settles O45: the deep-sleep command, then the bookkeeping and the response. -/
theorem sleepRunTrace : Obligations.SleepRunTrace := by
  unfold Obligations.SleepRunTrace
  intro s h ts os hs hq hp hsilent hturns hok
  have hsend := seqRuns_sends [(.deepSleep, s.cfg.ops.deepSleep, [0x01])] rfl
    (by simp [commandBytes, refreshPowerCommandBytes]) hs hq hsilent
  have hrun := hsend.trans (seqRuns_panel_finish (c := .asleep) (if s.panel = .configured then .asleep else .undefined)
    rfl rfl (fun _ _ _ => rfl) hs rfl hp)
  rw [hrun.runFor_eq (bs' := s.env.busy) hturns rfl hok]
  simp only [State.withDraws, State.released, List.append_assoc]
  rfl

/-- Settles O44: ACTIVATE, the poll, the response. -/
theorem powerOnRunTrace : Obligations.PowerOnRunTrace := by
  unfold Obligations.PowerOnRunTrace
  intro s h k ts bs os hs hq hp hsilent hturns hbusy hok
  have hsend := seqRuns_sends activateCommands rfl
    (mem_commandBytes_of_mem_activateCommands s.cfg (by simp)) hs hq hsilent
  have hpoll := hsend.trans (seqRuns_poll k (pc := 1) (by simp [pollEntries]) hs rfl)
  have hrun := hpoll.trans (seqRuns_finish rfl hs rfl hp)
  have hn : 1 + (k + 1) + 1 = k + 3 := by omega
  rw [hn] at hrun
  rw [hrun.runFor_eq (bs' := bs) hturns (by simp [hbusy]) hok]
  simp only [State.withDraws, State.released, List.append_assoc]
  rfl

/-! INIT. -/

/-- One level of the RST pulse (41_reset_init.md R181 entries 0 to 2). -/
theorem seqRuns_setRst {s : State} {op : Operation} {h pc : Nat} (v : Bool)
    (hb : (stepTable op)[pc]? = some [.setRst v, .advance, .delay Config.tRstSettle]) (hs : s.stopped = false)
    (hq : s.seq = .run op h pc) :
    SeqRuns 1 [] 0 s { s with
      trace := s.trace ++ [.rst v, .delay 200]
      rst := v
      seq := .run op h (pc + 1) } := by
  refine SeqRuns.of_entry_of_no_transport hs hq hb rfl fun ts bs os => ?_
  have hfirst : ((s.withDraws ts ([] ++ bs) os).runStmt (.setRst v)).live = true := State.live_of_run hs hq
  have hsecond : (((s.withDraws ts ([] ++ bs) os).runStmt (.setRst v)).runStmt .advance).live = true :=
    State.live_of_run hs (congrArg Seq.advance hq)
  rw [State.runStmts_cons_live _ hfirst, State.runStmts_cons_live _ hsecond, State.runStmts_single]
  simp [State.runStmt, State.driveRst, State.delay, State.withDraws, State.emit, State.setTrace, State.setSeq,
    State.setRst, hq, Seq.advance]

/-- The commands of `INIT_TABLE` (41_reset_init.md R183). -/
theorem commandsTrace_initTable (p : Params) : commandsTrace (initCommandBytes p).tail = initTableTrace p := by
  simp [commandsTrace, initCommandBytes, initTableTrace]

/-- The commands of the Waveform Loader (42_waveform.md R220). -/
theorem commandsTrace_waveform (p : Params) : commandsTrace (waveformCommandBytes p) = waveformTrace p := by
  simp [commandsTrace, waveformCommandBytes, waveformTrace]

theorem initTableTrace_length (p : Params) : (initTableTrace p).length = 19 := rfl

theorem waveformTrace_length {p : Params} (hlut : p.lut ≠ []) : (waveformTrace p).length = 10 := by
  simp [waveformTrace, cmdTrace, hlut]

/-- Entries 0 to 4: the pulse, a poll and the reset command. -/
theorem seqRuns_init_reset {s : State} {h : Nat} (hs : s.stopped = false) (hq : s.seq = .run .init h 0)
    (hsilent : s.env.tpSilent = false) :
    SeqRuns 5 [false] 1 s { s with
      trace := s.trace ++ [.rst true, .delay 200, .rst false, .delay 200, .rst true, .delay 200, .busy false] ++
        cmdTrace s.cfg.ops.swReset []
      rst := true
      seq := .run .init h 5 } := by
  have hrst := ((seqRuns_setRst true rfl hs hq).trans (seqRuns_setRst false rfl hs rfl)).trans
    (seqRuns_setRst true rfl hs rfl)
  have hrun := (hrst.trans (seqRuns_poll 0 (pc := 3) (by simp [pollEntries]) hs rfl)).trans
    (seqRuns_sends [(.swReset, s.cfg.ops.swReset, [])] rfl (by simp [commandBytes, initCommandBytes]) hs rfl hsilent)
  simpa [busyTrace, commandsTrace, cmdTrace] using hrun

/-- Entries 5 to 8: a poll and `INIT_TABLE`, a poll and the Waveform Loader. -/
theorem seqRuns_init_tables {s : State} {h : Nat} (hlut : s.cfg.lut ≠ []) (hs : s.stopped = false)
    (hq : s.seq = .run .init h 5) (hsilent : s.env.tpSilent = false) :
    SeqRuns 4 [false, false] 29 s { s with
      trace := s.trace ++ [.busy false] ++ initTableTrace s.cfg ++ [.busy false] ++ waveformTrace s.cfg
      seq := .run .init h 9 } := by
  have htable := (seqRuns_poll 0 (pc := 5) (by simp [pollEntries]) hs hq).trans
    (seqRuns_sends (initCommandBytes s.cfg).tail rfl
      (fun c hc => List.mem_append_left _ (List.mem_of_mem_tail hc)) hs rfl hsilent)
  have hrun := (htable.trans (seqRuns_poll 0 (pc := 7) (by simp [pollEntries]) hs rfl)).trans
    (seqRuns_sends (waveformCommandBytes s.cfg) rfl (fun c hc => List.mem_append_right _ hc) hs rfl hsilent)
  rw [commandsTrace_initTable, commandsTrace_waveform, initTableTrace_length, waveformTrace_length hlut] at hrun
  simpa [busyTrace] using hrun

/-- Settles O41: the reset, the tables, the bookkeeping and the response. -/
theorem initRunTrace : Obligations.InitRunTrace := by
  unfold Obligations.InitRunTrace
  intro s h ts bs os hlut hs hq hp hsilent hturns hbusy hok
  have htables := (seqRuns_init_reset hs hq hsilent).trans
    (seqRuns_init_tables (by exact hlut) (by exact hs) rfl (by exact hsilent))
  have hrun := htables.trans
    (seqRuns_panel_finish (c := .configured) .configured rfl rfl (fun _ _ _ => rfl) hs rfl hp)
  rw [hrun.runFor_eq (bs' := bs) hturns hbusy hok]
  simp only [State.withDraws, State.released, initTrace, List.append_assoc]
  rfl

/-! The two refreshes. -/

/-- The rows of a framebuffer as a range that starts at row 0. -/
theorem rowsTrace_eq_range' (fb : List Host.Cell) (after : List Event) :
    rowsTrace fb after = (List.range' 0 200).flatMap fun r => rowEvent fb r :: after := by
  rw [rowsTrace, List.range_eq_range']

/-- Entries 0 to 3 of the blocking refresh: a poll, the write-RAM command, the rows and ACTIVATE. -/
theorem seqRuns_refreshSync_send {s : State} {h : Nat} (hs : s.stopped = false) (hq : s.seq = .run .refreshSync h 0)
    (hrow : s.row = 0) (hsilent : s.env.tpSilent = false) :
    SeqRuns 203 [false] 204 s { s with
      trace := s.trace ++ [.busy false] ++ cmdTrace s.cfg.ops.writeRamBw [] ++ rowsTrace s.fb [] ++ activateTrace
      row := 200
      seq := .run .refreshSync h 4 } := by
  have hwrite := (seqRuns_poll 0 (pc := 0) (by simp [pollEntries]) hs hq).trans
    (seqRuns_sends [(.writeRamBw, s.cfg.ops.writeRamBw, [])] rfl
      (by simp [commandBytes, refreshPowerCommandBytes]) hs rfl hsilent)
  have hrows := hwrite.trans (isRowEntry_refreshSync.seqRuns_rows 199 hs rfl hsilent (by simp [hrow]))
  have hrun := hrows.trans (seqRuns_sends activateCommands rfl
    (mem_commandBytes_of_mem_activateCommands s.cfg (by simp)) hs rfl hsilent)
  rw [commandsTrace_activateCommands] at hrun
  simpa [busyTrace, commandsTrace, rowsTrace_eq_range', hrow, cmdTrace, activateTrace] using hrun

/-- Settles O42: what is sent, the second poll and the response. -/
theorem refreshSyncRunTrace : Obligations.RefreshSyncRunTrace := by
  unfold Obligations.RefreshSyncRunTrace
  intro s h k ts bs os hs hq hrow hp hsilent hturns hbusy hok
  have hrun := ((seqRuns_refreshSync_send hs hq hrow hsilent).trans
    (seqRuns_poll k (pc := 4) (by simp [pollEntries]) (by exact hs) rfl)).trans
    (seqRuns_finish rfl (by exact hs) rfl (by exact hp))
  have hn : 203 + (k + 1) + 1 = 205 + k := by omega
  rw [hn] at hrun
  rw [hrun.runFor_eq (bs' := bs) hturns (by simp [hbusy]) hok]
  simp only [State.withDraws, State.released, List.append_assoc]
  rfl

/-- Entries 0 to 2 of the background refresh: the write-RAM command and the rows, a yield after each, and ACTIVATE. -/
theorem seqRuns_refreshCoop_send {s : State} {h : Nat} (hs : s.stopped = false) (hq : s.seq = .run .refreshCoop h 0)
    (hrow : s.row = 0) (hsilent : s.env.tpSilent = false) :
    SeqRuns 201 [] 204 s { s with
      trace := s.trace ++ cmdTrace s.cfg.ops.writeRamBw [] ++ rowsTrace s.fb [.yield] ++ activateTrace ++ [.yield]
      row := 200
      seq := .run .refreshCoop h 3 } := by
  have hfirst : SeqRuns 1 [] 2 s { s with
      trace := s.trace ++ [.frame .command [s.cfg.ops.writeRamBw] true, rowEvent s.fb s.row, .yield]
      row := s.row + 1
      seq := .run .refreshCoop h 1 } :=
    SeqRuns.of_step fun ts bs os =>
      step_firstRow (s := s.withDraws (.agent .seq :: ts) bs (true :: true :: os)) rfl hs
        (by exact (by omega : s.row < 200)) hsilent hq ⟨rfl, rfl, trivial⟩
  have hrows := hfirst.trans (isRowEntry_refreshCoop.seqRuns_rows 198 hs rfl hsilent (by simp [hrow]))
  have hrun := hrows.trans (seqRuns_sends_yield activateCommands rfl
    (mem_commandBytes_of_mem_activateCommands s.cfg (by simp)) hs rfl hsilent)
  have hsplit : List.range' 0 200 = 0 :: List.range' 1 199 := rfl
  rw [commandsTrace_activateCommands] at hrun
  simpa [rowsTrace_eq_range', hsplit, hrow, cmdTrace, activateTrace] using hrun

/-- The background busy poll whose sample is 1. -/
theorem State.runStmt_coopPoll_busy {s : State} (hb : s.busyInput = true) : s.runStmt .coopPoll = { s with
    env := s.env.takeBusy
    trace := s.trace ++ [.busy true, .delay Config.tPoll] } := by
  simp [State.runStmt, hb, State.sampleBusy_eq, State.delay, State.emit, State.setTrace]

/-- The completion step, its sample given. -/
theorem seqRuns_complete {s : State} {h : Nat} (hs : s.stopped = false) (hq : s.seq = .run .refreshCoop h 3)
    (hp : s.port = .free) :
    SeqRuns 1 [false] 0 s (({ s with trace := s.trace ++ [.busy false] } : State).complete) := by
  refine SeqRuns.of_entry_of_no_transport hs hq rfl rfl fun ts bs os => ?_
  rw [State.runStmts_single, State.runStmt_coopPoll_ready rfl, State.complete_eq (by exact hp),
    State.complete_eq (s := { s with trace := s.trace ++ [.busy false] }) hp]
  rfl

/-- Settles O43: what is sent, the poll, and COMPLETE, which answers the waiters in one of their orders. -/
theorem refreshCoopRunTrace : Obligations.RefreshCoopRunTrace := by
  unfold Obligations.RefreshCoopRunTrace
  intro s h k ts bs os hs hq hrow hp hsilent hturns hbusy hok
  have hpoll := (seqRuns_refreshCoop_send hs hq hrow hsilent).trans
    (seqRuns_busy k rfl rfl (fun u => State.runStmt_coopPoll_busy) (by exact hs) rfl)
  have hrun := hpoll.trans (seqRuns_complete (by exact hs) rfl (by exact hp))
  have hn : 201 + k + 1 = 202 + k := by omega
  rw [hn, State.complete_eq (by exact hp)] at hrun
  have hperm : s.answerOrder.Perm s.waiters := orderBy_perm _ _
  refine ⟨_, s.answerOrder, hrun.runFor_eq (bs' := bs) hturns (by simp [hbusy]) hok, hperm, fun g => ?_, ?_⟩
  · simp only [← hperm.mem_iff]
    exact hosts_answered s.answerOrder s.hosts g
  · simp only [State.withDraws, List.append_assoc]
    rfl

/-! What the traces count. -/

/-- The frames of two traces one after the other. -/
theorem frames_append (t u : List Event) : frames (t ++ u) = frames t ++ frames u :=
  List.filterMap_append

/-- A framebuffer's rows are one data frame each. -/
theorem frames_rowsTrace (fb : List Host.Cell) {after : List Event} (hafter : frames after = []) :
    frames (rowsTrace fb after) =
      (List.range 200).map fun r => ⟨.data, (Memory.readBytes fb (25 * r) 25).map fun b => ~~~b⟩ := by
  have hrow : ∀ r, (rowEvent fb r :: after).filterMap eventFrame =
      [⟨.data, (Memory.readBytes fb (25 * r) 25).map fun b => ~~~b⟩] :=
    fun r => congrArg (_ :: ·) hafter
  simp only [frames, rowsTrace, List.filterMap_flatMap, hrow]
  exact List.map_eq_flatMap.symm

/-- The frames of a refresh: the write-RAM command, the rows, and ACTIVATE's three. -/
theorem frames_refresh (p : Params) (fb : List Host.Cell) {after : List Event} (hafter : frames after = []) :
    frames (cmdTrace p.ops.writeRamBw [] ++ rowsTrace fb after ++ activateTrace) =
      commandFrame p.ops.writeRamBw ::
        ((List.range 200).map fun r => ⟨.data, (Memory.readBytes fb (25 * r) 25).map fun b => ~~~b⟩) ++
        [commandFrame 0x22, ⟨.data, [0xC7]⟩, commandFrame 0x20] := by
  rw [frames_append, frames_append, frames_rowsTrace fb hafter]
  rfl

/-- Each busy sample of a poll waits `T_POLL`. -/
theorem elapsedMs_busyTrace (k : Nat) : elapsedMs (busyTrace k) = 100 * k := by
  induction k with
  | zero => rfl
  | succ k ih =>
    have hstep : elapsedMs (busyTrace (k + 1)) = 100 + elapsedMs (busyTrace k) := by
      simp [elapsedMs, busyTrace, eventMs]
    rw [hstep, ih]
    omega

/-- The data bytes of the rows are 25 each. -/
theorem map_dataLength_rows (fb : List Host.Cell) :
    ((List.range 200).map fun r => (⟨.data, (Memory.readBytes fb (25 * r) 25).map fun b => ~~~b⟩ : Frame)).map
      (fun f => if f.dc = .data then f.bytes.length else 0) = List.replicate 200 25 := by
  rw [List.map_map, List.map_eq_replicate_iff.mpr, List.length_range]
  intro r _
  simp

/-- A `Cmd` is one command frame, and one data frame if it has parameters; it waits for nothing. -/
theorem countP_command_cmdTrace (op : Byte) (l : List Byte) :
    (frames (cmdTrace op l)).countP (fun f => f.dc = .command) = 1 := by
  unfold cmdTrace
  split <;> rfl

theorem countP_data_cmdTrace (op : Byte) (l : List Byte) :
    (frames (cmdTrace op l)).countP (fun f => f.dc = .data) = if l = [] then 0 else 1 := by
  unfold cmdTrace
  split <;> rfl

theorem elapsedMs_cmdTrace (op : Byte) (l : List Byte) : elapsedMs (cmdTrace op l) = 0 := by
  unfold cmdTrace
  split <;> rfl

theorem elapsedMs_append (t u : List Event) : elapsedMs (t ++ u) = elapsedMs t + elapsedMs u := by
  simp [elapsedMs]

/-- INIT's 16 commands, two of them without parameters, and its three delays (41_reset_init.md R187). -/
theorem initTrace_counts {p : Params} (h : Nat) (hlut : p.lut ≠ []) :
    (frames (initTrace p h)).countP (fun f => f.dc = .command) = 16 ∧
    (frames (initTrace p h)).countP (fun f => f.dc = .data) = 14 ∧ elapsedMs (initTrace p h) = 600 := by
  have hpulse : frames [.rst true, .delay 200, .rst false, .delay 200, .rst true, .delay 200, .busy false] = [] := rfl
  have hpoll : frames [.busy false] = [] := rfl
  have hresp : frames [.resp h .ok] = [] := rfl
  refine ⟨?_, ?_, ?_⟩
  · simp only [initTrace, initTableTrace, waveformTrace, frames_append, List.countP_append, countP_command_cmdTrace,
      hpulse, hpoll, hresp, List.countP_nil]
  · simp only [initTrace, initTableTrace, waveformTrace, frames_append, List.countP_append, countP_data_cmdTrace,
      hpulse, hpoll, hresp, List.countP_nil, hlut, if_true, if_false, List.cons_ne_nil]
  · have hdelays : elapsedMs [.rst true, .delay 200, .rst false, .delay 200, .rst true, .delay 200, .busy false] = 600 :=
      rfl
    have hbusy : elapsedMs [.busy false] = 0 := rfl
    have hanswer : elapsedMs [.resp h .ok] = 0 := rfl
    simp only [initTrace, initTableTrace, waveformTrace, elapsedMs_append, elapsedMs_cmdTrace, hdelays, hbusy, hanswer]

/-- Settles O51: INIT's frames and delays are counted command by command, a refresh has a frame for each row. -/
theorem traceCounts : Obligations.TraceCounts := by
  unfold Obligations.TraceCounts
  refine ⟨fun p h hp => ?_, fun p fb after hafter => ?_, elapsedMs_busyTrace⟩
  · exact initTrace_counts h (List.ne_nil_of_length_pos (hp.2.symm ▸ by decide))
  · rw [frames_refresh p fb hafter]
    constructor
    · rw [List.length_append, List.length_cons, List.length_map, List.length_range]
      rfl
    · rw [List.map_append, List.map_cons, map_dataLength_rows, List.sum_append, List.sum_cons, List.sum_replicate]
      rfl

end Sys2Proof.Machine
end
